-- ==== Sys2Proof/Word.lean ====
section
/-! DEFINITION. The plain value types of the block: the 32-bit word of every data register and the 2-bit phase code. -/

namespace Sys2Proof

/-- A 32-bit value, unsigned (`u32`) or signed two's complement (`s32`): spec/00_scope.md R8, R9, R11. -/
abbrev Word := BitVec 32

/-- A phase code: bit 1 is the level of channel B, bit 0 the level of channel A (spec/30_encoding.md R91). -/
abbrev Phase := BitVec 2

/-- The position of one decoder in the bank: slots 0, 1 and 2 (spec/20_memory.md R60). -/
abbrev SlotId := Fin 3

end Sys2Proof
end

