-- ==== Sys2Proof/Config.lean ====
section
/-! DEFINITION. What an implementation fixes: the three OPEN parameters of spec/00_scope.md R8 and the capacity of the
registry. The block has no free value: spec/93_implementation_defined.md treats no behaviour as "any value". -/

namespace Sys2Proof

/-- `NUM_SLOTS`, the capacity of the registry (spec/00_scope.md R8). -/
def numSlots : Nat := 3

/-- `OOR_POLICY`: what a read with an index that names no registered slot does (spec/44_registry.md R196, decision D16). -/
inductive OorPolicy where
  /-- the index is taken modulo the current slot count (the reference behaviour, the default) -/
  | wrap
  /-- the read ends with status `INDEX_RANGE` (the recommended replacement) -/
  | fault
  deriving DecidableEq, Repr

/-- `IRQ_MODEL`: how edges become PULSE and INDEX operations (spec/60_exceptions.md R220 to R223, decision D20). -/
inductive IrqModel where
  /-- the interrupt context may issue any PULSE and any INDEX at any time (the default) -/
  | free
  /-- pin levels and one pending bit per source; the interrupt context dispatches pending sources -/
  | edgePending
  deriving DecidableEq, Repr

/-- The three OPEN parameters of spec/00_scope.md R8. They are fixed for one machine: no step writes them. -/
structure Params where
  /-- `OOR_POLICY` -/
  oorPolicy : OorPolicy
  /-- `CONSUME_ATOMIC`: CFAULT is one atomic test-and-clear (`true`) or a read step and a clear step (`false`) -/
  consumeAtomic : Bool
  /-- `IRQ_MODEL` -/
  irqModel : IrqModel
  deriving DecidableEq, Repr

/-- The defaults of spec/00_scope.md R8. -/
def Params.default : Params := { oorPolicy := .wrap, consumeAtomic := true, irqModel := .free }

end Sys2Proof
end

