-- ==== Sys2Proof/Syntax.lean ====
section
/-! DEFINITION. The abstract syntax: one constructor per row of spec/opcode_table.json, the eleven operations of the
command port (format CMD) and the sixteen transitions of the DecodeTable (format TRANS). -/

namespace Sys2Proof

/-- The four results of the DecodeTable (spec/30_encoding.md R94). -/
inductive DecodeResult where
  /-- NoChange -/
  | noChg
  /-- Forward -/
  | fwd
  /-- Fault: both channels changed -/
  | fault
  /-- Reverse -/
  | rev
  deriving DecidableEq, Repr

/-- The three execution contexts of spec/60_exceptions.md R230; `idle` is that of NOP, which belongs to none. -/
inductive Context where
  /-- NOP -/
  | idle
  /-- the host during single-threaded setup: REGISTER -/
  | setup
  /-- the front-end: PULSE and INDEX -/
  | interrupt
  /-- the host polling: the seven reads -/
  | poll
  deriving DecidableEq, Repr

/-- The operations. A slot operand `k` and a read index `i` are natural numbers, as in the pseudocode of
spec/44_registry.md R196 ("i : Nat"); the command word can carry 0 to 3, which `WellFormed` checks (DEDUCED, log entry 12). -/
inductive Instr where
  /-- the idle operation (spec/30_encoding.md R114) -/
  | nop
  /-- `register(configuredPPR, pinA, pinB, pinZ?)` (spec/44_registry.md R191); `ppr` travels in `wdata` -/
  | register (ppr : Word) (av bv zp : Bool) (ph0 : Phase)
  /-- `processPulse()` on slot `k` with the sampled phase `ph` (spec/41_pulse.md R142) -/
  | pulse (k : Nat) (ph : Phase)
  /-- `processIndexPulse()` on slot `k` (spec/42_index.md R161) -/
  | index (k : Nat)
  /-- `readNetCount(index)` (spec/43_read.md R171) -/
  | rdnet (i : Nat)
  /-- `consumeFault(index)` (spec/43_read.md R172, R174) -/
  | cfault (i : Nat)
  /-- `readCalculatedPPR(index)` (spec/43_read.md R175) -/
  | rdppr (i : Nat)
  /-- `get(index)` then `isInUse()` (spec/43_read.md R176) -/
  | inuse (i : Nat)
  /-- read of `forwardCount` (spec/43_read.md R177) -/
  | rdfwd (i : Nat)
  /-- read of `reverseCount` (spec/43_read.md R178) -/
  | rdrev (i : Nat)
  /-- read of `faultCount` (spec/43_read.md R179) -/
  | rdflt (i : Nat)
  /-- the DecodeTable transition 0 to 0, NOCHG, on slot `k` (spec/41_pulse.md R145) -/
  | trans00 (k : Nat)
  /-- the DecodeTable transition 0 to 1, FWD, on slot `k` (spec/41_pulse.md R143) -/
  | trans01 (k : Nat)
  /-- the DecodeTable transition 0 to 2, REV, on slot `k` (spec/41_pulse.md R144) -/
  | trans02 (k : Nat)
  /-- the DecodeTable transition 0 to 3, FAULT, on slot `k` (spec/41_pulse.md R146) -/
  | trans03 (k : Nat)
  /-- the DecodeTable transition 1 to 0, REV, on slot `k` (spec/41_pulse.md R144) -/
  | trans10 (k : Nat)
  /-- the DecodeTable transition 1 to 1, NOCHG, on slot `k` (spec/41_pulse.md R145) -/
  | trans11 (k : Nat)
  /-- the DecodeTable transition 1 to 2, FAULT, on slot `k` (spec/41_pulse.md R146) -/
  | trans12 (k : Nat)
  /-- the DecodeTable transition 1 to 3, FWD, on slot `k` (spec/41_pulse.md R143) -/
  | trans13 (k : Nat)
  /-- the DecodeTable transition 2 to 0, FWD, on slot `k` (spec/41_pulse.md R143) -/
  | trans20 (k : Nat)
  /-- the DecodeTable transition 2 to 1, FAULT, on slot `k` (spec/41_pulse.md R146) -/
  | trans21 (k : Nat)
  /-- the DecodeTable transition 2 to 2, NOCHG, on slot `k` (spec/41_pulse.md R145) -/
  | trans22 (k : Nat)
  /-- the DecodeTable transition 2 to 3, REV, on slot `k` (spec/41_pulse.md R144) -/
  | trans23 (k : Nat)
  /-- the DecodeTable transition 3 to 0, FAULT, on slot `k` (spec/41_pulse.md R146) -/
  | trans30 (k : Nat)
  /-- the DecodeTable transition 3 to 1, REV, on slot `k` (spec/41_pulse.md R144) -/
  | trans31 (k : Nat)
  /-- the DecodeTable transition 3 to 2, FWD, on slot `k` (spec/41_pulse.md R143) -/
  | trans32 (k : Nat)
  /-- the DecodeTable transition 3 to 3, NOCHG, on slot `k` (spec/41_pulse.md R145) -/
  | trans33 (k : Nat)
  deriving DecidableEq, Repr

/-- What is presented to the block: a command word with its data word (spec/30_encoding.md R110), or a 4-bit index of
the DecodeTable with the slot it is applied to (format TRANS, spec/30_encoding.md R122). -/
inductive Request where
  /-- `cmd[15:0]` and `wdata[31:0]` on the command port -/
  | cmd (word : BitVec 16) (wdata : Word)
  /-- a table index, and the slot whose PULSE applies it (DESIGN CHOICE, log entry 3) -/
  | trans (idx : BitVec 4) (slot : BitVec 2)
  deriving DecidableEq, Repr

/-- Which context issues an operation (spec/60_exceptions.md R230). A table transition is part of a PULSE. -/
def Instr.context : Instr → Context
  | .nop => .idle
  | .register _ _ _ _ _ => .setup
  | .pulse _ _ => .interrupt
  | .index _ => .interrupt
  | .rdnet _ => .poll
  | .cfault _ => .poll
  | .rdppr _ => .poll
  | .inuse _ => .poll
  | .rdfwd _ => .poll
  | .rdrev _ => .poll
  | .rdflt _ => .poll
  | .trans00 _ => .interrupt
  | .trans01 _ => .interrupt
  | .trans02 _ => .interrupt
  | .trans03 _ => .interrupt
  | .trans10 _ => .interrupt
  | .trans11 _ => .interrupt
  | .trans12 _ => .interrupt
  | .trans13 _ => .interrupt
  | .trans20 _ => .interrupt
  | .trans21 _ => .interrupt
  | .trans22 _ => .interrupt
  | .trans23 _ => .interrupt
  | .trans30 _ => .interrupt
  | .trans31 _ => .interrupt
  | .trans32 _ => .interrupt
  | .trans33 _ => .interrupt

end Sys2Proof
end

