-- ==== Sys2Proof/WellFormed.lean ====
section
/-! DEFINITION. Well-formed operations: those whose operands fit the fields of their encoding. -/

namespace Sys2Proof

/-- A slot operand or read index fits the 2-bit `SLOT` field, "an unsigned value 0 to 3" (spec/30_encoding.md R111). -/
def slotFits (k : Nat) : Bool := decide (k < 4)

/-- Every operand fits its field. The other operands fit by their type. -/
def WellFormed : Instr → Bool
  | .nop => true
  | .register _ _ _ _ _ => true
  | .pulse k _ => slotFits k
  | .index k => slotFits k
  | .rdnet i => slotFits i
  | .cfault i => slotFits i
  | .rdppr i => slotFits i
  | .inuse i => slotFits i
  | .rdfwd i => slotFits i
  | .rdrev i => slotFits i
  | .rdflt i => slotFits i
  | .trans00 k => slotFits k
  | .trans01 k => slotFits k
  | .trans02 k => slotFits k
  | .trans03 k => slotFits k
  | .trans10 k => slotFits k
  | .trans11 k => slotFits k
  | .trans12 k => slotFits k
  | .trans13 k => slotFits k
  | .trans20 k => slotFits k
  | .trans21 k => slotFits k
  | .trans22 k => slotFits k
  | .trans23 k => slotFits k
  | .trans30 k => slotFits k
  | .trans31 k => slotFits k
  | .trans32 k => slotFits k
  | .trans33 k => slotFits k

end Sys2Proof
end

