-- ==== Sys2Proof/Decode.lean ====
section
/-! DEFINITION. The decoder of spec/30_encoding.md R119 (total, rejecting by name), the encoder of R113 after it, and
the opcode table's match and mask columns. -/

namespace Sys2Proof

/-- Why a command word is illegal (spec/30_encoding.md R116). -/
inductive DecodeError where
  /-- `OP` is `0xB` to `0xF` -/
  | reservedOp
  /-- `RSV` is not zero -/
  | reservedBits
  /-- a field the operation does not use is not zero -/
  | unusedField
  deriving DecidableEq, Repr

/-! ### Fields of the command word (spec/30_encoding.md R111) -/

/-- `OP`, bits 15:12. -/
def cmdOp (w : BitVec 16) : BitVec 4 := w.extractLsb' 12 4
/-- `SLOT`, bits 11:10, an unsigned value. -/
def cmdSlot (w : BitVec 16) : Nat := (w.extractLsb' 10 2).toNat
/-- `PH`, bits 9:8. -/
def cmdPhase (w : BitVec 16) : Phase := w.extractLsb' 8 2
/-- `ZP`, bit 7. -/
def cmdZp (w : BitVec 16) : Bool := w.getLsbD 7
/-- `BV`, bit 6. -/
def cmdBv (w : BitVec 16) : Bool := w.getLsbD 6
/-- `AV`, bit 5. -/
def cmdAv (w : BitVec 16) : Bool := w.getLsbD 5
/-- `RSV`, bits 4:0. -/
def cmdRsv (w : BitVec 16) : BitVec 5 := w.extractLsb' 0 5

/-- Accept `i` when the bits its operation leaves unused are zero (spec/30_encoding.md R113, R116). -/
def whenUnusedZero (unusedZero : Bool) (i : Instr) : Except DecodeError Instr :=
  if unusedZero then .ok i else .error .unusedField

/-- `DecodeCmd(cmd)` of spec/30_encoding.md R119. -/
def decodeCmd (w : BitVec 16) (wdata : Word) : Except DecodeError Instr :=
  if cmdRsv w ≠ 0 then .error .reservedBits
  else match (cmdOp w).toNat with
    | 0x0 => whenUnusedZero (w.extractLsb' 5 7 == 0) .nop
    | 0x1 => whenUnusedZero (cmdSlot w == 0) (.register wdata (cmdAv w) (cmdBv w) (cmdZp w) (cmdPhase w))
    | 0x2 => whenUnusedZero (w.extractLsb' 5 3 == 0) (.pulse (cmdSlot w) (cmdPhase w))
    | 0x3 => whenUnusedZero (w.extractLsb' 5 5 == 0) (.index (cmdSlot w))
    | 0x4 => whenUnusedZero (w.extractLsb' 5 5 == 0) (.rdnet (cmdSlot w))
    | 0x5 => whenUnusedZero (w.extractLsb' 5 5 == 0) (.cfault (cmdSlot w))
    | 0x6 => whenUnusedZero (w.extractLsb' 5 5 == 0) (.rdppr (cmdSlot w))
    | 0x7 => whenUnusedZero (w.extractLsb' 5 5 == 0) (.inuse (cmdSlot w))
    | 0x8 => whenUnusedZero (w.extractLsb' 5 5 == 0) (.rdfwd (cmdSlot w))
    | 0x9 => whenUnusedZero (w.extractLsb' 5 5 == 0) (.rdrev (cmdSlot w))
    | 0xA => whenUnusedZero (w.extractLsb' 5 5 == 0) (.rdflt (cmdSlot w))
    | _ => .error .reservedOp

/-- The transition a 4-bit table index names: `idx = 4 * prev + new` (spec/30_encoding.md R96, R122). Every index has
a row, so no index is illegal. -/
def decodeTrans (idx : BitVec 4) (k : Nat) : Instr :=
  match idx.toNat with
  | 0 => .trans00 k
  | 1 => .trans01 k
  | 2 => .trans02 k
  | 3 => .trans03 k
  | 4 => .trans10 k
  | 5 => .trans11 k
  | 6 => .trans12 k
  | 7 => .trans13 k
  | 8 => .trans20 k
  | 9 => .trans21 k
  | 10 => .trans22 k
  | 11 => .trans23 k
  | 12 => .trans30 k
  | 13 => .trans31 k
  | 14 => .trans32 k
  | _ => .trans33 k

/-- The decoder: what a request asks for, or the name of what is wrong with its command word. -/
def decode : Request → Except DecodeError Instr
  | .cmd w wdata => decodeCmd w wdata
  | .trans idx slot => .ok (decodeTrans idx slot.toNat)

/-- The request an instruction of the opcode table is stored as: a row of format TRANS has 4 bits (one byte with the
upper half unused) and its slot operand no bits (DESIGN CHOICE, log entry 3); a row of format CMD has 16 bits, and
`wdata` counts on above them. -/
def requestOfBits (nbits w : Nat) : Request :=
  if nbits ≤ 8 then .trans (BitVec.ofNat 4 w) 0#2
  else .cmd (BitVec.ofNat 16 w) (BitVec.ofNat 32 (w >>> 16))

/-- What the decoder reads from an instruction whose bits are `w`. -/
def decodeTableWord (nbits w : Nat) : Option Instr :=
  match decode (requestOfBits nbits w) with
  | .ok i => some i
  | .error _ => none

/-! ### The encoder -/

/-- A command word from its fields (spec/30_encoding.md R111). -/
def packCmd (op : BitVec 4) (slot : BitVec 2) (ph : Phase) (zp bv av : Bool) : BitVec 16 :=
  op ++ slot ++ ph ++ BitVec.ofBool zp ++ BitVec.ofBool bv ++ BitVec.ofBool av ++ 0#5

/-- The command word of an operation whose one operand is a slot or a read index. -/
def packSlot (op : BitVec 4) (k : Nat) : BitVec 16 :=
  packCmd op (BitVec.ofNat 2 k) 0#2 false false false

/-- The request of an operation (spec/30_encoding.md R113, R122). `wdata` is zero where it is ignored. -/
def encode : Instr → Request
  | .nop => .cmd (packCmd 0x0#4 0#2 0#2 false false false) 0
  | .register ppr av bv zp ph0 => .cmd (packCmd 0x1#4 0#2 ph0 zp bv av) ppr
  | .pulse k ph => .cmd (packCmd 0x2#4 (BitVec.ofNat 2 k) ph false false false) 0
  | .index k => .cmd (packSlot 0x3#4 k) 0
  | .rdnet i => .cmd (packSlot 0x4#4 i) 0
  | .cfault i => .cmd (packSlot 0x5#4 i) 0
  | .rdppr i => .cmd (packSlot 0x6#4 i) 0
  | .inuse i => .cmd (packSlot 0x7#4 i) 0
  | .rdfwd i => .cmd (packSlot 0x8#4 i) 0
  | .rdrev i => .cmd (packSlot 0x9#4 i) 0
  | .rdflt i => .cmd (packSlot 0xA#4 i) 0
  | .trans00 k => .trans 0x0#4 (BitVec.ofNat 2 k)
  | .trans01 k => .trans 0x1#4 (BitVec.ofNat 2 k)
  | .trans02 k => .trans 0x2#4 (BitVec.ofNat 2 k)
  | .trans03 k => .trans 0x3#4 (BitVec.ofNat 2 k)
  | .trans10 k => .trans 0x4#4 (BitVec.ofNat 2 k)
  | .trans11 k => .trans 0x5#4 (BitVec.ofNat 2 k)
  | .trans12 k => .trans 0x6#4 (BitVec.ofNat 2 k)
  | .trans13 k => .trans 0x7#4 (BitVec.ofNat 2 k)
  | .trans20 k => .trans 0x8#4 (BitVec.ofNat 2 k)
  | .trans21 k => .trans 0x9#4 (BitVec.ofNat 2 k)
  | .trans22 k => .trans 0xa#4 (BitVec.ofNat 2 k)
  | .trans23 k => .trans 0xb#4 (BitVec.ofNat 2 k)
  | .trans30 k => .trans 0xc#4 (BitVec.ofNat 2 k)
  | .trans31 k => .trans 0xd#4 (BitVec.ofNat 2 k)
  | .trans32 k => .trans 0xe#4 (BitVec.ofNat 2 k)
  | .trans33 k => .trans 0xf#4 (BitVec.ofNat 2 k)

/-- The transition instruction of the pair (previous phase, new phase) on slot `k`. -/
def transInstr (prev new : Phase) (k : Nat) : Instr := decodeTrans (prev ++ new) k

/-- A request with the data word that its operation ignores set to zero (spec/30_encoding.md R113: `wdata` is read by
REGISTER only). -/
def Request.canonical : Request → Request
  | .cmd w wdata => .cmd w (if cmdOp w = 0x1#4 then wdata else 0)
  | .trans idx slot => .trans idx slot

/-! ### The opcode table's columns -/

/-- One row of spec/opcode_table.json: a word belongs to it when `word and mask = pattern`. -/
structure OpcodeRow where
  mnemonic : String
  width : Nat
  pattern : BitVec 16
  mask : BitVec 16
  deriving DecidableEq, Repr

/-- The eleven rows of format CMD (spec/30_encoding.md R113). -/
def cmdRows : List OpcodeRow :=
  [ ⟨"NOP", 16, 0x0000, 0xFFFF⟩, ⟨"REGISTER", 16, 0x1000, 0xFC1F⟩, ⟨"PULSE", 16, 0x2000, 0xF0FF⟩,
    ⟨"INDEX", 16, 0x3000, 0xF3FF⟩, ⟨"RDNET", 16, 0x4000, 0xF3FF⟩, ⟨"CFAULT", 16, 0x5000, 0xF3FF⟩,
    ⟨"RDPPR", 16, 0x6000, 0xF3FF⟩, ⟨"INUSE", 16, 0x7000, 0xF3FF⟩, ⟨"RDFWD", 16, 0x8000, 0xF3FF⟩,
    ⟨"RDREV", 16, 0x9000, 0xF3FF⟩, ⟨"RDFLT", 16, 0xA000, 0xF3FF⟩ ]

/-- The row of spec/opcode_table.json an operation belongs to. -/
def Instr.row : Instr → OpcodeRow
  | .nop => ⟨"NOP", 16, 0x0000, 0xFFFF⟩
  | .register _ _ _ _ _ => ⟨"REGISTER", 16, 0x1000, 0xFC1F⟩
  | .pulse _ _ => ⟨"PULSE", 16, 0x2000, 0xF0FF⟩
  | .index _ => ⟨"INDEX", 16, 0x3000, 0xF3FF⟩
  | .rdnet _ => ⟨"RDNET", 16, 0x4000, 0xF3FF⟩
  | .cfault _ => ⟨"CFAULT", 16, 0x5000, 0xF3FF⟩
  | .rdppr _ => ⟨"RDPPR", 16, 0x6000, 0xF3FF⟩
  | .inuse _ => ⟨"INUSE", 16, 0x7000, 0xF3FF⟩
  | .rdfwd _ => ⟨"RDFWD", 16, 0x8000, 0xF3FF⟩
  | .rdrev _ => ⟨"RDREV", 16, 0x9000, 0xF3FF⟩
  | .rdflt _ => ⟨"RDFLT", 16, 0xA000, 0xF3FF⟩
  | .trans00 _ => ⟨"TRANS_0_0", 4, 0x0, 0xF⟩
  | .trans01 _ => ⟨"TRANS_0_1", 4, 0x1, 0xF⟩
  | .trans02 _ => ⟨"TRANS_0_2", 4, 0x2, 0xF⟩
  | .trans03 _ => ⟨"TRANS_0_3", 4, 0x3, 0xF⟩
  | .trans10 _ => ⟨"TRANS_1_0", 4, 0x4, 0xF⟩
  | .trans11 _ => ⟨"TRANS_1_1", 4, 0x5, 0xF⟩
  | .trans12 _ => ⟨"TRANS_1_2", 4, 0x6, 0xF⟩
  | .trans13 _ => ⟨"TRANS_1_3", 4, 0x7, 0xF⟩
  | .trans20 _ => ⟨"TRANS_2_0", 4, 0x8, 0xF⟩
  | .trans21 _ => ⟨"TRANS_2_1", 4, 0x9, 0xF⟩
  | .trans22 _ => ⟨"TRANS_2_2", 4, 0xa, 0xF⟩
  | .trans23 _ => ⟨"TRANS_2_3", 4, 0xb, 0xF⟩
  | .trans30 _ => ⟨"TRANS_3_0", 4, 0xc, 0xF⟩
  | .trans31 _ => ⟨"TRANS_3_1", 4, 0xd, 0xF⟩
  | .trans32 _ => ⟨"TRANS_3_2", 4, 0xe, 0xF⟩
  | .trans33 _ => ⟨"TRANS_3_3", 4, 0xf, 0xF⟩

/-- The bits of a request that the opcode table numbers: the command word, or the table index. -/
def Request.tableBits : Request → BitVec 16
  | .cmd w _ => w
  | .trans idx _ => idx.setWidth 16

end Sys2Proof
end

