-- ==== Sys2Proof/Machine/State.lean ====
section
/-! DEFINITION. The machine's state as plain data, its reset, and the reasons a step could stop. -/

namespace Sys2Proof.Machine

/-- The status codes a response can carry (spec/60_exceptions.md R212). Code 7 is never produced and has no name. -/
inductive Status where
  /-- normal completion -/
  | ok
  /-- REGISTER: the registry already holds three encoders -/
  | configCapacity
  /-- REGISTER: pin A or pin B is the "unused" sentinel -/
  | configPins
  /-- a read with `i >= count > 0` under `OOR_POLICY = fault` -/
  | indexRange
  /-- a read with `count = 0` -/
  | empty
  /-- PULSE or INDEX on a slot with no callback bound -/
  | unbound
  /-- the command word matches no operation -/
  | illegal
  deriving DecidableEq, Repr

/-- The response port: `status[2:0]` and `rdata[31:0]` (spec/30_encoding.md R110, R115). -/
structure Response where
  status : Status
  rdata : Word
  deriving DecidableEq, Repr

/-- `D[k]`, the state of one decoder: the thirteen fields of spec/10_state.md R20. -/
structure Decoder where
  /-- last observed phase code, the sequencing state (R24) -/
  lastPhase : Phase
  /-- signed net pulse count, a two's-complement pattern (R23) -/
  netCount : Word
  forwardCount : Word
  reverseCount : Word
  faultCount : Word
  /-- sticky, clear-on-read (R25) -/
  faultLatch : Bool
  /-- an index pulse has been observed (R26) -/
  firstIndexSeen : Bool
  /-- signed snapshot of `netCount` -/
  netCountAtLastIndex : Word
  /-- `calculatedPulsesPerRevolution` -/
  calcPPR : Word
  /-- configured pulses-per-revolution (R28) -/
  cfgPPR : Word
  /-- pin A is not the "unused" sentinel (R29) -/
  aValid : Bool
  /-- pin B is not the "unused" sentinel (R29) -/
  bValid : Bool
  /-- pin Z is present (R29) -/
  zPresent : Bool
  deriving DecidableEq, Repr

/-- Three like things, one for each slot (spec/10_state.md R36). -/
structure Bank (α : Type) where
  d0 : α
  d1 : α
  d2 : α
  deriving DecidableEq, Repr

/-- The three pins of one encoder, and so its three interrupt sources (spec/60_exceptions.md R215 to R217). -/
inductive Channel where
  | a
  | b
  | z
  deriving DecidableEq, Repr

/-- One bit for each of an encoder's three channels: the pin levels `a[k]`, `b[k]`, `z[k]` (spec/60_exceptions.md
R221), or the pending bits `pendA[k]`, `pendB[k]`, `pendZ[k]` (R222). -/
structure Lines where
  a : Bool
  b : Bool
  z : Bool
  deriving DecidableEq, Repr

/-- `cfTmp[k]` and `cfBusy[k]`: a CFAULT between its read step and its clear step (spec/43_read.md R174). -/
structure SplitRead where
  tmp : Bool
  busy : Bool
  deriving DecidableEq, Repr

/-- What an agent does next (spec/20_memory.md R70): the schedule that the outside world chooses is data of the state. -/
inductive Input where
  /-- an operation is presented on the command port -/
  | request (r : Request)
  /-- the signal environment changes one pin level (spec/60_exceptions.md R221) -/
  | edge (k : SlotId) (c : Channel)
  /-- the interrupt context serves one pending source (spec/60_exceptions.md R223) -/
  | dispatch (k : SlotId) (c : Channel)
  /-- the second transition of a split CFAULT, `CF_CLEAR(k)` (spec/43_read.md R174) -/
  | clear (k : SlotId)
  deriving DecidableEq, Repr

/-- The machine. `count` and `slots` are the state of spec/10_state.md R20; `pins`, `pending` and `split` are that of
R37; `response` is the response port; `params` and `inputs` are the model's own (DESIGN CHOICE, log entries 1 and 2). -/
structure State where
  /-- the number of slots the registry has assigned (R30) -/
  count : Fin 4
  /-- `D[0..2]` -/
  slots : Bank Decoder
  /-- pin levels, read under `IRQ_MODEL = edge_pending` only -/
  pins : Bank Lines
  /-- pending bits, set under `IRQ_MODEL = edge_pending` only -/
  pending : Bank Lines
  /-- used under `CONSUME_ATOMIC = false` only -/
  split : Bank SplitRead
  /-- the last response produced -/
  response : Response
  /-- the OPEN parameters this machine was built with -/
  params : Params
  /-- what the agents do, the next first -/
  inputs : List Input
  deriving DecidableEq, Repr

/-- The reasons a step stops with a fault: none. "No operation halts the block" (spec/60_exceptions.md R214): every
error kind of the spec is a status of a response, after which the next command runs. Having no constructor is safe and
exact: nobody raises a fault (DEDUCED, log entry 11). -/
inductive Fault where
  deriving DecidableEq, Repr

/-- The reasons an instruction is refused. -/
inductive Refusal where
  /-- Raised by `exec` for an instruction that has no meaning yet; safe. No arm raises it any more. -/
  | notModelled (mnemonic : String)
  deriving DecidableEq, Repr

/-- A decoder with every field zero (spec/10_state.md R45). -/
def Decoder.zero : Decoder :=
  { lastPhase := 0, netCount := 0, forwardCount := 0, reverseCount := 0, faultCount := 0, faultLatch := false,
    firstIndexSeen := false, netCountAtLastIndex := 0, calcPPR := 0, cfgPPR := 0, aValid := false, bValid := false,
    zPresent := false }

/-- Three low lines: no pending bit, or three pins at level 0. -/
def Lines.zero : Lines := { a := false, b := false, z := false }

/-- No split CFAULT under way. -/
def SplitRead.zero : SplitRead := { tmp := false, busy := false }

/-- Power-on reset of a machine built with the parameters `p` (spec/10_state.md R45, spec/70_reset_and_hazards.md
R250). The pin levels, `cfTmp` and the response port have no reset value in the spec (DESIGN CHOICE, log entry 4). -/
def State.resetWith (p : Params) : State :=
  { count := 0
    slots := ⟨Decoder.zero, Decoder.zero, Decoder.zero⟩
    pins := ⟨Lines.zero, Lines.zero, Lines.zero⟩
    pending := ⟨Lines.zero, Lines.zero, Lines.zero⟩
    split := ⟨SplitRead.zero, SplitRead.zero, SplitRead.zero⟩
    response := { status := .ok, rdata := 0 }
    params := p
    inputs := [] }

/-- Power-on reset with the parameters' defaults (spec/00_scope.md R8). -/
def State.reset : State := State.resetWith Params.default

end Sys2Proof.Machine
end

