-- ==== Sys2Proof/Machine/Operands.lean ====
section
/-! DEFINITION. Operand forms: the arithmetic primitives of spec/00_scope.md R12, the phase code of two levels, and the
DecodeTable with its index and its result codes. -/

namespace Sys2Proof.Machine

/-! ### Arithmetic (spec/00_scope.md R12) -/

/-- `wrapU32`: the low 32 bits of an exact integer. -/
def wrapU32 (n : Int) : Word := BitVec.ofInt 32 n

/-- `wrapS32`: an exact integer reduced into the signed range, held as its two's-complement pattern. -/
def wrapS32 (n : Int) : Word := BitVec.ofInt 32 n

/-- `absU32`: the magnitude of a signed value; that of -2^31 is 2^31, which fits. -/
def absU32 (s : Word) : Word := BitVec.ofNat 32 s.toInt.natAbs

/-- `zext_32` of a boolean. -/
def zextBool (b : Bool) : Word := if b then 1 else 0

/-- `zext_32` of a slot index. -/
def zextSlot (k : SlotId) : Word := BitVec.ofNat 32 k.val

/-! ### Phase codes (spec/30_encoding.md R91 to R93) -/

/-- The phase code of two levels, `{b, a}`. -/
def phaseOf (a b : Bool) : Phase := BitVec.ofBool b ++ BitVec.ofBool a

/-- The successor of a phase code in the valid cycle 0, 1, 3, 2. -/
def nextPhase (p : Phase) : Phase :=
  match p.toNat with
  | 0 => 1
  | 1 => 3
  | 3 => 2
  | _ => 0

/-- The predecessor of a phase code in the valid cycle. -/
def prevPhase (p : Phase) : Phase :=
  match p.toNat with
  | 0 => 2
  | 2 => 3
  | 3 => 1
  | _ => 0

/-! ### The DecodeTable (spec/30_encoding.md R94 to R100) -/

/-- The 2-bit code of a result (R94). -/
def resultCode : DecodeResult → BitVec 2
  | .noChg => 0b00#2
  | .fwd => 0b01#2
  | .fault => 0b10#2
  | .rev => 0b11#2

/-- The sixteen entries of R100 in index order, one row of the grid a line. -/
def decodeTable : List DecodeResult :=
  [ .noChg, .fwd, .rev, .fault,
    .rev, .noChg, .fault, .fwd,
    .fwd, .fault, .noChg, .rev,
    .fault, .rev, .fwd, .noChg ]

/-- `idx = {prev, new}` (R96). -/
def tableIndex (prev new : Phase) : BitVec 4 := prev ++ new

/-- `TableRead(idx)` (R100). The table has an entry for each of the sixteen indices; the default is never used. -/
def tableRead (idx : BitVec 4) : DecodeResult := decodeTable.getD idx.toNat .noChg

/-- `Decode(prev, new)` (R100). -/
def decodePair (prev new : Phase) : DecodeResult := tableRead (tableIndex prev new)

end Sys2Proof.Machine
end

