-- ==== Sys2Proof/Machine/Flags.lean ====
section
/-! DEFINITION. The flags: the derived flags of spec/10_state.md R33 to R35, the fault latch of R25, the index flag of
R26, and the status codes of spec/60_exceptions.md R212. The block has no arithmetic condition codes (R27). -/

namespace Sys2Proof.Machine

/-- The item of a bank that belongs to one slot. -/
def Bank.get {α : Type} (b : Bank α) (k : SlotId) : α :=
  match k with
  | 0 => b.d0
  | 1 => b.d1
  | 2 => b.d2

/-- A bank with one slot's item replaced. -/
def Bank.set {α : Type} (b : Bank α) (k : SlotId) (x : α) : Bank α :=
  match k with
  | 0 => { b with d0 := x }
  | 1 => { b with d1 := x }
  | 2 => { b with d2 := x }

/-- `D[k]`. -/
def State.slot (s : State) (k : SlotId) : Decoder := s.slots.get k

/-- `D[k].inUse` (spec/10_state.md R34). -/
def Decoder.inUse (d : Decoder) : Bool := d.aValid && d.bValid

/-- `D[k].bound` (spec/10_state.md R35). -/
def State.bound (s : State) (k : SlotId) : Bool := decide (k.val < s.count.val) && (s.slot k).inUse

/-- `D[k].zBound` (spec/10_state.md R35). -/
def State.zBound (s : State) (k : SlotId) : Bool := s.bound k && (s.slot k).zPresent

/-- The fault latch after a PULSE with result `r`: set by Fault, never cleared (spec/41_pulse.md R146, R149). -/
def latchAfter (r : DecodeResult) (latch : Bool) : Bool :=
  match r with
  | .fault => true
  | .noChg | .fwd | .rev => latch

/-- `status[2:0]` (spec/60_exceptions.md R212). -/
def Status.code : Status → BitVec 3
  | .ok => 0
  | .configCapacity => 1
  | .configPins => 2
  | .indexRange => 3
  | .empty => 4
  | .unbound => 5
  | .illegal => 6

end Sys2Proof.Machine
end

