-- ==== Sys2Proof/Machine/Ops.lean ====
section
/-! DEFINITION. The shared operations: the writes to the state's fields, the two ways an operation ends (`return` and
`raise`, the block's only exception mechanism), slot selection, CONSTRUCT, the PULSE and INDEX transitions of one
decoder, and the two halves of CFAULT. -/

namespace Sys2Proof.Machine

/-! ### Writes -/

/-- `D[k] <- d`. -/
def State.setSlot (s : State) (k : SlotId) (d : Decoder) : State := { s with slots := s.slots.set k d }

/-- `count <- n`. -/
def State.setCount (s : State) (n : Fin 4) : State := { s with count := n }

/-- The pin levels of slot `k`. -/
def State.setPins (s : State) (k : SlotId) (l : Lines) : State := { s with pins := s.pins.set k l }

/-- The pending bits of slot `k`. -/
def State.setPending (s : State) (k : SlotId) (l : Lines) : State := { s with pending := s.pending.set k l }

/-- `cfTmp[k]` and `cfBusy[k]`. -/
def State.setSplit (s : State) (k : SlotId) (c : SplitRead) : State := { s with split := s.split.set k c }

/-- The agents' schedule. -/
def State.setInputs (s : State) (l : List Input) : State := { s with inputs := l }

/-- Put a response on the response port (spec/00_scope.md R14). -/
def State.respond (s : State) (st : Status) (v : Word) : State := { s with response := { status := st, rdata := v } }

/-! ### How an operation ends (spec/00_scope.md R14, spec/60_exceptions.md R227, R228)

A raise is a status on the response port. It saves no register, switches no mode and transfers no control, so entering
it and returning from it are one write of the port. -/

/-- `return v`. -/
def State.ret (s : State) (v : Word) : State := s.respond .ok v

/-- `raise <Name>`: `rdata` is 0 and nothing else changes. -/
def State.raise (s : State) (st : Status) : State := s.respond st 0

/-! ### Slot selection -/

/-- The slot that an operand of PULSE or INDEX names; 3 and above name none (spec/20_memory.md R68). -/
def slotOf (k : Nat) : Option SlotId :=
  if h : k < 3 then some ⟨k, h⟩ else none

/-- The bound slot `k`, or none (spec/41_pulse.md R141). -/
def State.boundSlot (s : State) (k : Nat) : Option SlotId := (slotOf k).filter s.bound

/-- The slot `k` with a bound index callback, or none (spec/42_index.md R160). -/
def State.zBoundSlot (s : State) (k : Nat) : Option SlotId := (slotOf k).filter s.zBound

/-- `Resolve(i)` (spec/44_registry.md R196, R197). The result is always below `count`. -/
def State.resolve (s : State) (i : Nat) : Except Status SlotId :=
  if s.count.val = 0 then .error .empty
  else if i < s.count.val then .ok (Fin.ofNat 3 i)
  else match s.params.oorPolicy with
    | .wrap => .ok (Fin.ofNat 3 (i % s.count.val))
    | .fault => .error .indexRange

/-! ### CONSTRUCT and REGISTER (spec/40_construct.md R131, spec/44_registry.md R191) -/

/-- What CONSTRUCT leaves in a slot. -/
def constructed (ppr : Word) (av bv zp : Bool) (ph0 : Phase) : Decoder :=
  { lastPhase := if av && bv then ph0 else 0
    netCount := 0, forwardCount := 0, reverseCount := 0, faultCount := 0
    faultLatch := false, firstIndexSeen := false, netCountAtLastIndex := 0, calcPPR := 0
    cfgPPR := ppr, aValid := av, bValid := bv, zPresent := zp }

/-- The initial phase of a slot under construction: the operand, or under `IRQ_MODEL = edge_pending` the pin levels
(spec/60_exceptions.md R221; DEDUCED, log entry 10). -/
def State.initialPhase (s : State) (k : SlotId) (ph0 : Phase) : Phase :=
  match s.params.irqModel with
  | .free => ph0
  | .edgePending => phaseOf (s.pins.get k).a (s.pins.get k).b

/-- Every pending bit false (spec/60_exceptions.md R222: "all false after reset and after REGISTER"; DEDUCED, log
entry 6: of every slot). -/
def State.dropPending (s : State) : State := { s with pending := ⟨Lines.zero, Lines.zero, Lines.zero⟩ }

/-- The slot the next REGISTER assigns, or none when the registry is full (spec/44_registry.md R191, R192). -/
def State.freeSlot (s : State) : Option SlotId := slotOf s.count.val

/-- REGISTER with a free slot `k`: the slot is assigned and constructed (spec/44_registry.md R191). -/
def State.assign (s : State) (k : SlotId) (d : Decoder) : State :=
  ((s.setCount (Fin.ofNat 4 (s.count.val + 1))).setSlot k d).dropPending

/-! ### The PULSE transition (spec/41_pulse.md R142 to R147) -/

/-- One decoder after a PULSE whose table result is `r` and whose new phase is `ph`. -/
def pulsed (r : DecodeResult) (ph : Phase) (d : Decoder) : Decoder :=
  let counted : Decoder :=
    match r with
    | .fwd => { d with forwardCount := wrapU32 (d.forwardCount.toNat + 1), netCount := wrapS32 (d.netCount.toInt + 1) }
    | .rev => { d with reverseCount := wrapU32 (d.reverseCount.toNat + 1), netCount := wrapS32 (d.netCount.toInt - 1) }
    | .noChg => d
    | .fault => { d with faultCount := wrapU32 (d.faultCount.toNat + 1) }
  { counted with faultLatch := latchAfter r d.faultLatch, lastPhase := ph }

/-- The phase pair that the next PULSE `k, ph` decodes gives this result (spec/41_pulse.md R142). -/
def State.pulseResult (s : State) (k : SlotId) (ph : Phase) : DecodeResult := decodePair (s.slot k).lastPhase ph

/-- A table transition of slot `k`: from phase `prev` to phase `new` with result `r`. It acts on a bound slot whose
last phase is `prev`; an entry that the pair does not select has no effect (spec/20_memory.md R66;
DESIGN CHOICE, log entry 3). -/
def State.transition (s : State) (prev new : Phase) (r : DecodeResult) (k : Nat) : State :=
  match s.boundSlot k with
  | none => s.raise .unbound
  | some j =>
    if (s.slot j).lastPhase = prev then (s.setSlot j (pulsed r new (s.slot j))).ret 0
    else s.ret 0

/-! ### The INDEX transition (spec/42_index.md R161) -/

/-- One decoder after an index pulse. -/
def indexed (d : Decoder) : Decoder :=
  if d.firstIndexSeen then
    { d with
      calcPPR := absU32 (wrapS32 (d.netCount.toInt - d.netCountAtLastIndex.toInt))
      netCountAtLastIndex := d.netCount }
  else { d with firstIndexSeen := true, netCountAtLastIndex := d.netCount }

/-! ### Reads (spec/43_read.md R170, R172, R174) -/

/-- A non-destructive read: resolve the index and return a value of the slot. -/
def State.readSlot (s : State) (i : Nat) (value : Decoder → Word) : State :=
  match s.resolve i with
  | .error st => s.raise st
  | .ok k => s.ret (value (s.slot k))

/-- `D[k].faultLatch <- false`. -/
def State.clearLatch (s : State) (k : SlotId) : State := s.setSlot k { s.slot k with faultLatch := false }

/-- `CF_READ`, the first transition of a split CFAULT, which produces no response yet (R174). -/
def State.splitReadLatch (s : State) (k : SlotId) : State :=
  s.setSplit k { tmp := (s.slot k).faultLatch, busy := true }

/-- `CF_CLEAR`, the second transition of a split CFAULT (R174). -/
def State.splitClear (s : State) (k : SlotId) : State :=
  ((s.clearLatch k).setSplit k { s.split.get k with busy := false }).ret (zextBool (s.split.get k).tmp)

/-- The slot whose CFAULT has read and not yet cleared. -/
def State.busySlot (s : State) : Option SlotId :=
  if s.split.d0.busy then some 0
  else if s.split.d1.busy then some 1
  else if s.split.d2.busy then some 2
  else none

end Sys2Proof.Machine
end

