-- ==== Sys2Proof/Machine/Idle.lean ====
section
/-! DEFINITION. The idle operation. -/

namespace Sys2Proof.Machine

/-- NOP: no state change, response `(OK, 0)` (spec/30_encoding.md R114). -/
def execNop (s : State) : Host.Outcome State Fault Refusal := .next (s.ret 0)

end Sys2Proof.Machine
end

