-- ==== Sys2Proof/Machine/Interrupt.lean ====
section
/-! DEFINITION. The interrupt-side operations, PULSE and INDEX. -/

namespace Sys2Proof.Machine

/-- PULSE (spec/41_pulse.md R141, R142). -/
def execPulse (k : Nat) (ph : Phase) (s : State) : Host.Outcome State Fault Refusal :=
  match s.boundSlot k with
  | none => .next (s.raise .unbound)
  | some j => .next ((s.setSlot j (pulsed (s.pulseResult j ph) ph (s.slot j))).ret 0)

/-- INDEX (spec/42_index.md R160, R161). -/
def execIndex (k : Nat) (s : State) : Host.Outcome State Fault Refusal :=
  match s.zBoundSlot k with
  | none => .next (s.raise .unbound)
  | some j => .next ((s.setSlot j (indexed (s.slot j))).ret 0)

end Sys2Proof.Machine
end

