-- ==== Sys2Proof/Machine/Read.lean ====
section
/-! DEFINITION. The seven reads of the poll context. -/

namespace Sys2Proof.Machine

/-- RDNET (spec/43_read.md R171): `netCount` as its 32-bit pattern. -/
def execRdnet (i : Nat) (s : State) : Host.Outcome State Fault Refusal := .next (s.readSlot i (·.netCount))

/-- CFAULT (spec/43_read.md R172, and R174 where `CONSUME_ATOMIC` is false). -/
def execCfault (i : Nat) (s : State) : Host.Outcome State Fault Refusal :=
  match s.resolve i with
  | .error st => .next (s.raise st)
  | .ok k =>
    if s.params.consumeAtomic then .next ((s.clearLatch k).ret (zextBool (s.slot k).faultLatch))
    else .next (s.splitReadLatch k)

/-- RDPPR (spec/43_read.md R175). -/
def execRdppr (i : Nat) (s : State) : Host.Outcome State Fault Refusal := .next (s.readSlot i (·.calcPPR))

/-- INUSE (spec/43_read.md R176). -/
def execInuse (i : Nat) (s : State) : Host.Outcome State Fault Refusal :=
  .next (s.readSlot i (fun d => zextBool d.inUse))

/-- RDFWD (spec/43_read.md R177). -/
def execRdfwd (i : Nat) (s : State) : Host.Outcome State Fault Refusal := .next (s.readSlot i (·.forwardCount))

/-- RDREV (spec/43_read.md R178). -/
def execRdrev (i : Nat) (s : State) : Host.Outcome State Fault Refusal := .next (s.readSlot i (·.reverseCount))

/-- RDFLT (spec/43_read.md R179). -/
def execRdflt (i : Nat) (s : State) : Host.Outcome State Fault Refusal := .next (s.readSlot i (·.faultCount))

end Sys2Proof.Machine
end

