-- ==== Sys2Proof/Machine/Setup.lean ====
section
/-! DEFINITION. The setup operation. -/

namespace Sys2Proof.Machine

/-- REGISTER (spec/44_registry.md R191 to R193). A REGISTER after a PULSE or INDEX runs by the same rule, as
spec/70_reset_and_hazards.md R251 lets a total model do (DESIGN CHOICE, log entry 5). -/
def execRegister (ppr : Word) (av bv zp : Bool) (ph0 : Phase) (s : State) : Host.Outcome State Fault Refusal :=
  match s.freeSlot with
  | none => .next (s.raise .configCapacity)
  | some k =>
    .next ((s.assign k (constructed ppr av bv zp (s.initialPhase k ph0))).respond
      (if av && bv then .ok else .configPins) (zextSlot k))

end Sys2Proof.Machine
end

