-- ==== Sys2Proof/Machine/Transition.lean ====
section
/-! DEFINITION. The sixteen transitions of the DecodeTable, each with the result its row of spec/opcode_table.json gives.
They do not read `decodeTable`: that PULSE, which does, runs the selected one of them is a statement. -/

namespace Sys2Proof.Machine

/-- TRANS_0_0: NOCHG (spec/41_pulse.md R145, table row of spec/30_encoding.md R100). -/
def execTrans00 (k : Nat) (s : State) : Host.Outcome State Fault Refusal := .next (s.transition 0 0 .noChg k)

/-- TRANS_0_1: FWD (spec/41_pulse.md R143, table row of spec/30_encoding.md R100). -/
def execTrans01 (k : Nat) (s : State) : Host.Outcome State Fault Refusal := .next (s.transition 0 1 .fwd k)

/-- TRANS_0_2: REV (spec/41_pulse.md R144, table row of spec/30_encoding.md R100). -/
def execTrans02 (k : Nat) (s : State) : Host.Outcome State Fault Refusal := .next (s.transition 0 2 .rev k)

/-- TRANS_0_3: FAULT (spec/41_pulse.md R146, table row of spec/30_encoding.md R100). -/
def execTrans03 (k : Nat) (s : State) : Host.Outcome State Fault Refusal := .next (s.transition 0 3 .fault k)

/-- TRANS_1_0: REV (spec/41_pulse.md R144, table row of spec/30_encoding.md R100). -/
def execTrans10 (k : Nat) (s : State) : Host.Outcome State Fault Refusal := .next (s.transition 1 0 .rev k)

/-- TRANS_1_1: NOCHG (spec/41_pulse.md R145, table row of spec/30_encoding.md R100). -/
def execTrans11 (k : Nat) (s : State) : Host.Outcome State Fault Refusal := .next (s.transition 1 1 .noChg k)

/-- TRANS_1_2: FAULT (spec/41_pulse.md R146, table row of spec/30_encoding.md R100). -/
def execTrans12 (k : Nat) (s : State) : Host.Outcome State Fault Refusal := .next (s.transition 1 2 .fault k)

/-- TRANS_1_3: FWD (spec/41_pulse.md R143, table row of spec/30_encoding.md R100). -/
def execTrans13 (k : Nat) (s : State) : Host.Outcome State Fault Refusal := .next (s.transition 1 3 .fwd k)

/-- TRANS_2_0: FWD (spec/41_pulse.md R143, table row of spec/30_encoding.md R100). -/
def execTrans20 (k : Nat) (s : State) : Host.Outcome State Fault Refusal := .next (s.transition 2 0 .fwd k)

/-- TRANS_2_1: FAULT (spec/41_pulse.md R146, table row of spec/30_encoding.md R100). -/
def execTrans21 (k : Nat) (s : State) : Host.Outcome State Fault Refusal := .next (s.transition 2 1 .fault k)

/-- TRANS_2_2: NOCHG (spec/41_pulse.md R145, table row of spec/30_encoding.md R100). -/
def execTrans22 (k : Nat) (s : State) : Host.Outcome State Fault Refusal := .next (s.transition 2 2 .noChg k)

/-- TRANS_2_3: REV (spec/41_pulse.md R144, table row of spec/30_encoding.md R100). -/
def execTrans23 (k : Nat) (s : State) : Host.Outcome State Fault Refusal := .next (s.transition 2 3 .rev k)

/-- TRANS_3_0: FAULT (spec/41_pulse.md R146, table row of spec/30_encoding.md R100). -/
def execTrans30 (k : Nat) (s : State) : Host.Outcome State Fault Refusal := .next (s.transition 3 0 .fault k)

/-- TRANS_3_1: REV (spec/41_pulse.md R144, table row of spec/30_encoding.md R100). -/
def execTrans31 (k : Nat) (s : State) : Host.Outcome State Fault Refusal := .next (s.transition 3 1 .rev k)

/-- TRANS_3_2: FWD (spec/41_pulse.md R143, table row of spec/30_encoding.md R100). -/
def execTrans32 (k : Nat) (s : State) : Host.Outcome State Fault Refusal := .next (s.transition 3 2 .fwd k)

/-- TRANS_3_3: NOCHG (spec/41_pulse.md R145, table row of spec/30_encoding.md R100). -/
def execTrans33 (k : Nat) (s : State) : Host.Outcome State Fault Refusal := .next (s.transition 3 3 .noChg k)

end Sys2Proof.Machine
end

