-- ==== Sys2Proof/Machine/Dispatch.lean ====
section
/-! DEFINITION. The dispatch: one arm per instruction. -/

namespace Sys2Proof.Machine

def exec (i : Instr) (s : State) : Host.Outcome State Fault Refusal :=
  match i with
  | .nop => Sys2Proof.Machine.execNop s
  | .register ppr av bv zp ph0 => Sys2Proof.Machine.execRegister ppr av bv zp ph0 s
  | .pulse k ph => Sys2Proof.Machine.execPulse k ph s
  | .index k => Sys2Proof.Machine.execIndex k s
  | .rdnet n => Sys2Proof.Machine.execRdnet n s
  | .cfault n => Sys2Proof.Machine.execCfault n s
  | .rdppr n => Sys2Proof.Machine.execRdppr n s
  | .inuse n => Sys2Proof.Machine.execInuse n s
  | .rdfwd n => Sys2Proof.Machine.execRdfwd n s
  | .rdrev n => Sys2Proof.Machine.execRdrev n s
  | .rdflt n => Sys2Proof.Machine.execRdflt n s
  | .trans00 k => Sys2Proof.Machine.execTrans00 k s
  | .trans01 k => Sys2Proof.Machine.execTrans01 k s
  | .trans02 k => Sys2Proof.Machine.execTrans02 k s
  | .trans03 k => Sys2Proof.Machine.execTrans03 k s
  | .trans10 k => Sys2Proof.Machine.execTrans10 k s
  | .trans11 k => Sys2Proof.Machine.execTrans11 k s
  | .trans12 k => Sys2Proof.Machine.execTrans12 k s
  | .trans13 k => Sys2Proof.Machine.execTrans13 k s
  | .trans20 k => Sys2Proof.Machine.execTrans20 k s
  | .trans21 k => Sys2Proof.Machine.execTrans21 k s
  | .trans22 k => Sys2Proof.Machine.execTrans22 k s
  | .trans23 k => Sys2Proof.Machine.execTrans23 k s
  | .trans30 k => Sys2Proof.Machine.execTrans30 k s
  | .trans31 k => Sys2Proof.Machine.execTrans31 k s
  | .trans32 k => Sys2Proof.Machine.execTrans32 k s
  | .trans33 k => Sys2Proof.Machine.execTrans33 k s

end Sys2Proof.Machine
end

