-- ==== Sys2Proof/Machine/Agents.lean ====
section
/-! DEFINITION. What each agent's next action does: an operation presented on the command port, a change of a pin level,
the dispatch of a pending source, and the clear step of a split CFAULT (spec/20_memory.md R70, spec/43_read.md R174,
spec/60_exceptions.md R221 to R223). -/

namespace Sys2Proof.Machine

/-- The level or pending bit of one channel. -/
def Lines.get (l : Lines) : Channel → Bool
  | .a => l.a
  | .b => l.b
  | .z => l.z

/-- Three lines with one of them replaced. -/
def Lines.set (l : Lines) (c : Channel) (v : Bool) : Lines :=
  match c with
  | .a => { l with a := v }
  | .b => { l with b := v }
  | .z => { l with z := v }

/-- The operations of the host, which is the agent of the setup and the poll context (spec/60_exceptions.md R230). -/
def isHostOperation (i : Instr) : Bool := i.context == .setup || i.context == .poll

/-- The response to an illegal command word: no state change (spec/30_encoding.md R116). -/
def State.rejectWord (s : State) : State := s.raise .illegal

/-- Whether a change of one pin from `level` requests its callback: any change of A or B of a bound slot, a falling
edge of Z of a slot with a bound index callback (spec/60_exceptions.md R215 to R217, R221). -/
def State.edgeRequests (s : State) (k : SlotId) (c : Channel) (level : Bool) : Bool :=
  match c with
  | .a => s.bound k
  | .b => s.bound k
  | .z => s.zBound k && level

/-- The environment step (spec/60_exceptions.md R221). Under `IRQ_MODEL = free` there are no pins and the step is
dropped (DESIGN CHOICE, log entry 8). -/
def State.changePin (s : State) (k : SlotId) (c : Channel) : State :=
  match s.params.irqModel with
  | .free => s
  | .edgePending =>
    let level := (s.pins.get k).get c
    let s' := s.setPins k ((s.pins.get k).set c (!level))
    if s.edgeRequests k c level then s'.setPending k ((s.pending.get k).set c true) else s'

/-- The operation that the dispatch of a source runs, with the levels as they are (spec/60_exceptions.md R223). -/
def State.dispatched (s : State) (k : SlotId) (c : Channel) : Instr :=
  match c with
  | .a => .pulse k.val (phaseOf (s.pins.get k).a (s.pins.get k).b)
  | .b => .pulse k.val (phaseOf (s.pins.get k).a (s.pins.get k).b)
  | .z => .index k.val

/-- The dispatch step (spec/60_exceptions.md R223). A source that is not pending cannot be chosen: the step is dropped
(DESIGN CHOICE, log entry 8). -/
def State.dispatchSource (s : State) (k : SlotId) (c : Channel) : Host.Outcome State Fault Refusal :=
  if (s.pending.get k).get c then
    exec (s.dispatched k c) (s.setPending k ((s.pending.get k).set c false))
  else .next s

/-- The clear step of a split CFAULT, "enabled only when cfBusy[k]" (spec/43_read.md R174); otherwise it is dropped
(DESIGN CHOICE, log entry 8). -/
def State.finishSplit (s : State) (k : SlotId) : State :=
  if (s.split.get k).busy then s.splitClear k else s

/-- One operation presented on the command port, taken from the head of the schedule, `rest` being what follows. While
a CFAULT is between its two transitions, an operation of the host is not taken: this step is the clear step
(spec/43_read.md R174; DESIGN CHOICE, log entry 7). A PULSE or INDEX word runs under either `IRQ_MODEL` (DESIGN CHOICE,
log entry 9). -/
def State.present (s : State) (r : Request) (rest : List Input) : Host.Outcome State Fault Refusal :=
  match decode r with
  | .error _ => .next (s.setInputs rest).rejectWord
  | .ok i =>
    match s.busySlot with
    | some k => if isHostOperation i then .next (s.splitClear k) else exec i (s.setInputs rest)
    | none => exec i (s.setInputs rest)

/-- The next action of the schedule. -/
def State.serve (s : State) (e : Input) (rest : List Input) : Host.Outcome State Fault Refusal :=
  match e with
  | .request r => s.present r rest
  | .edge k c => .next ((s.setInputs rest).changePin k c)
  | .dispatch k c => (s.setInputs rest).dispatchSource k c
  | .clear k => .next ((s.setInputs rest).finishSplit k)

/-- With nothing scheduled the command port holds its idle value, NOP (spec/30_encoding.md R114; DEDUCED, log entry
13). -/
def State.advance (s : State) : Host.Outcome State Fault Refusal :=
  match s.inputs with
  | [] => exec .nop s
  | e :: rest => s.serve e rest

end Sys2Proof.Machine
end

