-- ==== Sys2Proof/Machine/Step.lean ====
section
/-! DEFINITION. One step: the next action of the schedule (spec/20_memory.md R70). -/

namespace Sys2Proof.Machine

/-- One atomic transition of the machine. -/
def step (s : State) : Host.Outcome State Fault Refusal := s.advance

/-- The instruction whose bits are `w` presented as the next action. -/
def State.withFetchWord (s : State) (nbits w : Nat) : State :=
  s.setInputs (.request (requestOfBits nbits w) :: s.inputs)

end Sys2Proof.Machine
end

