-- ==== Sys2Proof/Laws/State.lean ====
section
/-! SUPPORT. The small lemmas of the state record: what each write leaves in each field, and reading a bank after
writing it. -/

namespace Sys2Proof.Machine

variable (s : State)

/-! ### One lemma per field per update -/

@[simp] theorem State.setSlot_count (k : SlotId) (d : Decoder) : (s.setSlot k d).count = s.count := rfl
@[simp] theorem State.setSlot_slots (k : SlotId) (d : Decoder) : (s.setSlot k d).slots = s.slots.set k d := rfl
@[simp] theorem State.setSlot_pins (k : SlotId) (d : Decoder) : (s.setSlot k d).pins = s.pins := rfl
@[simp] theorem State.setSlot_pending (k : SlotId) (d : Decoder) : (s.setSlot k d).pending = s.pending := rfl
@[simp] theorem State.setSlot_split (k : SlotId) (d : Decoder) : (s.setSlot k d).split = s.split := rfl
@[simp] theorem State.setSlot_response (k : SlotId) (d : Decoder) : (s.setSlot k d).response = s.response := rfl
@[simp] theorem State.setSlot_params (k : SlotId) (d : Decoder) : (s.setSlot k d).params = s.params := rfl
@[simp] theorem State.setSlot_inputs (k : SlotId) (d : Decoder) : (s.setSlot k d).inputs = s.inputs := rfl

@[simp] theorem State.setCount_count (n : Fin 4) : (s.setCount n).count = n := rfl
@[simp] theorem State.setCount_slots (n : Fin 4) : (s.setCount n).slots = s.slots := rfl
@[simp] theorem State.setCount_pins (n : Fin 4) : (s.setCount n).pins = s.pins := rfl
@[simp] theorem State.setCount_pending (n : Fin 4) : (s.setCount n).pending = s.pending := rfl
@[simp] theorem State.setCount_split (n : Fin 4) : (s.setCount n).split = s.split := rfl
@[simp] theorem State.setCount_response (n : Fin 4) : (s.setCount n).response = s.response := rfl
@[simp] theorem State.setCount_params (n : Fin 4) : (s.setCount n).params = s.params := rfl
@[simp] theorem State.setCount_inputs (n : Fin 4) : (s.setCount n).inputs = s.inputs := rfl

@[simp] theorem State.setPins_count (k : SlotId) (l : Lines) : (s.setPins k l).count = s.count := rfl
@[simp] theorem State.setPins_slots (k : SlotId) (l : Lines) : (s.setPins k l).slots = s.slots := rfl
@[simp] theorem State.setPins_pins (k : SlotId) (l : Lines) : (s.setPins k l).pins = s.pins.set k l := rfl
@[simp] theorem State.setPins_pending (k : SlotId) (l : Lines) : (s.setPins k l).pending = s.pending := rfl
@[simp] theorem State.setPins_split (k : SlotId) (l : Lines) : (s.setPins k l).split = s.split := rfl
@[simp] theorem State.setPins_response (k : SlotId) (l : Lines) : (s.setPins k l).response = s.response := rfl
@[simp] theorem State.setPins_params (k : SlotId) (l : Lines) : (s.setPins k l).params = s.params := rfl
@[simp] theorem State.setPins_inputs (k : SlotId) (l : Lines) : (s.setPins k l).inputs = s.inputs := rfl

@[simp] theorem State.setPending_count (k : SlotId) (l : Lines) : (s.setPending k l).count = s.count := rfl
@[simp] theorem State.setPending_slots (k : SlotId) (l : Lines) : (s.setPending k l).slots = s.slots := rfl
@[simp] theorem State.setPending_pins (k : SlotId) (l : Lines) : (s.setPending k l).pins = s.pins := rfl
@[simp] theorem State.setPending_pending (k : SlotId) (l : Lines) : (s.setPending k l).pending = s.pending.set k l := rfl
@[simp] theorem State.setPending_split (k : SlotId) (l : Lines) : (s.setPending k l).split = s.split := rfl
@[simp] theorem State.setPending_response (k : SlotId) (l : Lines) : (s.setPending k l).response = s.response := rfl
@[simp] theorem State.setPending_params (k : SlotId) (l : Lines) : (s.setPending k l).params = s.params := rfl
@[simp] theorem State.setPending_inputs (k : SlotId) (l : Lines) : (s.setPending k l).inputs = s.inputs := rfl

@[simp] theorem State.setSplit_count (k : SlotId) (c : SplitRead) : (s.setSplit k c).count = s.count := rfl
@[simp] theorem State.setSplit_slots (k : SlotId) (c : SplitRead) : (s.setSplit k c).slots = s.slots := rfl
@[simp] theorem State.setSplit_pins (k : SlotId) (c : SplitRead) : (s.setSplit k c).pins = s.pins := rfl
@[simp] theorem State.setSplit_pending (k : SlotId) (c : SplitRead) : (s.setSplit k c).pending = s.pending := rfl
@[simp] theorem State.setSplit_split (k : SlotId) (c : SplitRead) : (s.setSplit k c).split = s.split.set k c := rfl
@[simp] theorem State.setSplit_response (k : SlotId) (c : SplitRead) : (s.setSplit k c).response = s.response := rfl
@[simp] theorem State.setSplit_params (k : SlotId) (c : SplitRead) : (s.setSplit k c).params = s.params := rfl
@[simp] theorem State.setSplit_inputs (k : SlotId) (c : SplitRead) : (s.setSplit k c).inputs = s.inputs := rfl

@[simp] theorem State.setInputs_count (l : List Input) : (s.setInputs l).count = s.count := rfl
@[simp] theorem State.setInputs_slots (l : List Input) : (s.setInputs l).slots = s.slots := rfl
@[simp] theorem State.setInputs_pins (l : List Input) : (s.setInputs l).pins = s.pins := rfl
@[simp] theorem State.setInputs_pending (l : List Input) : (s.setInputs l).pending = s.pending := rfl
@[simp] theorem State.setInputs_split (l : List Input) : (s.setInputs l).split = s.split := rfl
@[simp] theorem State.setInputs_response (l : List Input) : (s.setInputs l).response = s.response := rfl
@[simp] theorem State.setInputs_params (l : List Input) : (s.setInputs l).params = s.params := rfl
@[simp] theorem State.setInputs_inputs (l : List Input) : (s.setInputs l).inputs = l := rfl

@[simp] theorem State.respond_count (st : Status) (v : Word) : (s.respond st v).count = s.count := rfl
@[simp] theorem State.respond_slots (st : Status) (v : Word) : (s.respond st v).slots = s.slots := rfl
@[simp] theorem State.respond_pins (st : Status) (v : Word) : (s.respond st v).pins = s.pins := rfl
@[simp] theorem State.respond_pending (st : Status) (v : Word) : (s.respond st v).pending = s.pending := rfl
@[simp] theorem State.respond_split (st : Status) (v : Word) : (s.respond st v).split = s.split := rfl
@[simp] theorem State.respond_response (st : Status) (v : Word) : (s.respond st v).response = { status := st, rdata := v } := rfl
@[simp] theorem State.respond_params (st : Status) (v : Word) : (s.respond st v).params = s.params := rfl
@[simp] theorem State.respond_inputs (st : Status) (v : Word) : (s.respond st v).inputs = s.inputs := rfl

@[simp] theorem State.dropPending_count : (s.dropPending).count = s.count := rfl
@[simp] theorem State.dropPending_slots : (s.dropPending).slots = s.slots := rfl
@[simp] theorem State.dropPending_pins : (s.dropPending).pins = s.pins := rfl
@[simp] theorem State.dropPending_pending : (s.dropPending).pending = ⟨Lines.zero, Lines.zero, Lines.zero⟩ := rfl
@[simp] theorem State.dropPending_split : (s.dropPending).split = s.split := rfl
@[simp] theorem State.dropPending_response : (s.dropPending).response = s.response := rfl
@[simp] theorem State.dropPending_params : (s.dropPending).params = s.params := rfl
@[simp] theorem State.dropPending_inputs : (s.dropPending).inputs = s.inputs := rfl

/-! ### `return` and `raise` are writes of the response port -/

theorem State.ret_eq (v : Word) : s.ret v = s.respond .ok v := rfl
theorem State.raise_eq (st : Status) : s.raise st = s.respond st 0 := rfl

@[simp] theorem State.ret_count (v : Word) : (s.ret v).count = s.count := rfl
@[simp] theorem State.ret_slots (v : Word) : (s.ret v).slots = s.slots := rfl
@[simp] theorem State.ret_pins (v : Word) : (s.ret v).pins = s.pins := rfl
@[simp] theorem State.ret_pending (v : Word) : (s.ret v).pending = s.pending := rfl
@[simp] theorem State.ret_split (v : Word) : (s.ret v).split = s.split := rfl
@[simp] theorem State.ret_response (v : Word) : (s.ret v).response = { status := .ok, rdata := v } := rfl
@[simp] theorem State.ret_params (v : Word) : (s.ret v).params = s.params := rfl
@[simp] theorem State.ret_inputs (v : Word) : (s.ret v).inputs = s.inputs := rfl

@[simp] theorem State.raise_count (st : Status) : (s.raise st).count = s.count := rfl
@[simp] theorem State.raise_slots (st : Status) : (s.raise st).slots = s.slots := rfl
@[simp] theorem State.raise_pins (st : Status) : (s.raise st).pins = s.pins := rfl
@[simp] theorem State.raise_pending (st : Status) : (s.raise st).pending = s.pending := rfl
@[simp] theorem State.raise_split (st : Status) : (s.raise st).split = s.split := rfl
@[simp] theorem State.raise_response (st : Status) : (s.raise st).response = { status := st, rdata := 0 } := rfl
@[simp] theorem State.raise_params (st : Status) : (s.raise st).params = s.params := rfl
@[simp] theorem State.raise_inputs (st : Status) : (s.raise st).inputs = s.inputs := rfl

/-! ### Banks -/

@[simp] theorem Bank.get_set_self {α : Type} (b : Bank α) (k : SlotId) (x : α) : (b.set k x).get k = x := by
  match k with
  | 0 | 1 | 2 => rfl

theorem Bank.get_set_ne {α : Type} (b : Bank α) {j k : SlotId} (x : α) (h : j ≠ k) :
    (b.set k x).get j = b.get j := by
  match j, k with
  | 0, 0 | 1, 1 | 2, 2 => exact absurd rfl h
  | 0, 1 | 0, 2 | 1, 0 | 1, 2 | 2, 0 | 2, 1 => rfl

theorem Bank.get_set {α : Type} (b : Bank α) (j k : SlotId) (x : α) :
    (b.set k x).get j = if j = k then x else b.get j := by
  by_cases h : j = k
  · subst h; simp
  · simp [h, b.get_set_ne x h]

@[simp] theorem Bank.set_get {α : Type} (b : Bank α) (k : SlotId) : b.set k (b.get k) = b := by
  match k with
  | 0 | 1 | 2 => rfl

@[simp] theorem Bank.set_set {α : Type} (b : Bank α) (k : SlotId) (x y : α) :
    (b.set k x).set k y = b.set k y := by
  match k with
  | 0 | 1 | 2 => rfl

theorem Bank.set_comm {α : Type} (b : Bank α) {j k : SlotId} (x y : α) (h : j ≠ k) :
    (b.set j x).set k y = (b.set k y).set j x := by
  match j, k with
  | 0, 0 | 1, 1 | 2, 2 => exact absurd rfl h
  | 0, 1 | 0, 2 | 1, 0 | 1, 2 | 2, 0 | 2, 1 => rfl

@[simp] theorem Bank.get_all {α : Type} (x : α) (k : SlotId) : (Bank.mk x x x).get k = x := by
  match k with
  | 0 | 1 | 2 => rfl

/-! ### `D[k]` after each write -/

@[simp] theorem State.setSlot_slot (j k : SlotId) (d : Decoder) :
    (s.setSlot k d).slot j = if j = k then d else s.slot j := Bank.get_set _ _ _ _
@[simp] theorem State.setCount_slot (n : Fin 4) (j : SlotId) : (s.setCount n).slot j = s.slot j := rfl
@[simp] theorem State.setPins_slot (k : SlotId) (l : Lines) (j : SlotId) : (s.setPins k l).slot j = s.slot j := rfl
@[simp] theorem State.setPending_slot (k : SlotId) (l : Lines) (j : SlotId) :
    (s.setPending k l).slot j = s.slot j := rfl
@[simp] theorem State.setSplit_slot (k : SlotId) (c : SplitRead) (j : SlotId) :
    (s.setSplit k c).slot j = s.slot j := rfl
@[simp] theorem State.setInputs_slot (l : List Input) (j : SlotId) : (s.setInputs l).slot j = s.slot j := rfl
@[simp] theorem State.respond_slot (st : Status) (v : Word) (j : SlotId) : (s.respond st v).slot j = s.slot j := rfl
@[simp] theorem State.ret_slot (v : Word) (j : SlotId) : (s.ret v).slot j = s.slot j := rfl
@[simp] theorem State.raise_slot (st : Status) (j : SlotId) : (s.raise st).slot j = s.slot j := rfl
@[simp] theorem State.dropPending_slot (j : SlotId) : s.dropPending.slot j = s.slot j := rfl

/-! ### `bound` and `zBound` see the registry and the configuration only -/

@[simp] theorem State.setPins_bound (k : SlotId) (l : Lines) (j : SlotId) : (s.setPins k l).bound j = s.bound j := rfl
@[simp] theorem State.setPins_zBound (k : SlotId) (l : Lines) (j : SlotId) : (s.setPins k l).zBound j = s.zBound j := rfl
@[simp] theorem State.setPending_bound (k : SlotId) (l : Lines) (j : SlotId) : (s.setPending k l).bound j = s.bound j := rfl
@[simp] theorem State.setPending_zBound (k : SlotId) (l : Lines) (j : SlotId) : (s.setPending k l).zBound j = s.zBound j := rfl
@[simp] theorem State.setSplit_bound (k : SlotId) (c : SplitRead) (j : SlotId) : (s.setSplit k c).bound j = s.bound j := rfl
@[simp] theorem State.setSplit_zBound (k : SlotId) (c : SplitRead) (j : SlotId) : (s.setSplit k c).zBound j = s.zBound j := rfl
@[simp] theorem State.setInputs_bound (l : List Input) (j : SlotId) : (s.setInputs l).bound j = s.bound j := rfl
@[simp] theorem State.setInputs_zBound (l : List Input) (j : SlotId) : (s.setInputs l).zBound j = s.zBound j := rfl
@[simp] theorem State.respond_bound (st : Status) (v : Word) (j : SlotId) : (s.respond st v).bound j = s.bound j := rfl
@[simp] theorem State.respond_zBound (st : Status) (v : Word) (j : SlotId) : (s.respond st v).zBound j = s.zBound j := rfl
@[simp] theorem State.dropPending_bound (j : SlotId) : (s.dropPending).bound j = s.bound j := rfl
@[simp] theorem State.dropPending_zBound (j : SlotId) : (s.dropPending).zBound j = s.zBound j := rfl
@[simp] theorem State.ret_bound (v : Word) (j : SlotId) : (s.ret v).bound j = s.bound j := rfl
@[simp] theorem State.ret_zBound (v : Word) (j : SlotId) : (s.ret v).zBound j = s.zBound j := rfl
@[simp] theorem State.raise_bound (st : Status) (j : SlotId) : (s.raise st).bound j = s.bound j := rfl
@[simp] theorem State.raise_zBound (st : Status) (j : SlotId) : (s.raise st).zBound j = s.zBound j := rfl

theorem State.bound_iff (k : SlotId) :
    s.bound k = true ↔ k.val < s.count.val ∧ (s.slot k).aValid = true ∧ (s.slot k).bValid = true := by
  simp [State.bound, Decoder.inUse]

theorem State.zBound_iff (k : SlotId) : s.zBound k = true ↔ s.bound k = true ∧ (s.slot k).zPresent = true := by
  simp [State.zBound]

/-- Writing a slot without touching its pin configuration leaves every `bound` as it was. -/
theorem State.setSlot_bound (k : SlotId) (d : Decoder) (ha : d.aValid = (s.slot k).aValid)
    (hb : d.bValid = (s.slot k).bValid) (j : SlotId) : (s.setSlot k d).bound j = s.bound j := by
  rw [Bool.eq_iff_iff, State.bound_iff, State.bound_iff]
  by_cases h : j = k
  · subst h; simp [ha, hb]
  · simp [h]

/-- Writing a slot without touching its pin configuration leaves every `zBound` as it was. -/
theorem State.setSlot_zBound (k : SlotId) (d : Decoder) (ha : d.aValid = (s.slot k).aValid)
    (hb : d.bValid = (s.slot k).bValid) (hz : d.zPresent = (s.slot k).zPresent) (j : SlotId) :
    (s.setSlot k d).zBound j = s.zBound j := by
  by_cases h : j = k
  · subst h; simp [State.zBound, s.setSlot_bound j d ha hb, hz]
  · simp [State.zBound, s.setSlot_bound k d ha hb, h]

end Sys2Proof.Machine
end

