-- ==== Sys2Proof/Laws/Ops.lean ====
section
/-! SUPPORT. One lemma for each shared operation, saying once everything it can do. -/

namespace Sys2Proof.Machine

variable (s : State)

/-! ### Arithmetic -/

theorem wrapU32_succ (x : Word) : wrapU32 (x.toNat + 1) = x + 1 := by
  apply BitVec.eq_of_toNat_eq
  simp [wrapU32, BitVec.toNat_ofInt, BitVec.toNat_add]
  omega

theorem wrapS32_succ (x : Word) : wrapS32 (x.toInt + 1) = x + 1 := by
  simp [wrapS32, BitVec.ofInt_add]

theorem wrapS32_sub (x y : Word) : wrapS32 (x.toInt - y.toInt) = x - y := by
  rw [wrapS32, Int.sub_eq_add_neg, BitVec.ofInt_add, BitVec.ofInt_neg, BitVec.ofInt_toInt, BitVec.ofInt_toInt,
    BitVec.sub_eq_add_neg]

theorem wrapS32_pred (x : Word) : wrapS32 (x.toInt - 1) = x - 1 := wrapS32_sub x 1

theorem absU32_toNat (x : Word) : (absU32 x).toNat = x.toInt.natAbs := by
  have h1 := x.toInt_lt
  have h2 := x.le_toInt
  simp only [absU32, BitVec.toNat_ofNat]
  apply Nat.mod_eq_of_lt
  omega

/-! ### The PULSE transition of one decoder -/

theorem pulsed_fwd (ph : Phase) (d : Decoder) :
    pulsed .fwd ph d =
      { d with lastPhase := ph, forwardCount := d.forwardCount + 1, netCount := d.netCount + 1 } := by
  simp [pulsed, latchAfter, wrapU32_succ, wrapS32_succ]

theorem pulsed_rev (ph : Phase) (d : Decoder) :
    pulsed .rev ph d =
      { d with lastPhase := ph, reverseCount := d.reverseCount + 1, netCount := d.netCount - 1 } := by
  simp [pulsed, latchAfter, wrapU32_succ, wrapS32_pred]

theorem pulsed_noChg (ph : Phase) (d : Decoder) : pulsed .noChg ph d = { d with lastPhase := ph } := rfl

theorem pulsed_fault (ph : Phase) (d : Decoder) :
    pulsed .fault ph d =
      { d with lastPhase := ph, faultCount := d.faultCount + 1, faultLatch := true } := by
  simp [pulsed, latchAfter, wrapU32_succ]

@[simp] theorem pulsed_lastPhase (r : DecodeResult) (ph : Phase) (d : Decoder) : (pulsed r ph d).lastPhase = ph := rfl

/-- What a PULSE never writes: the index unit and the configuration. -/
theorem pulsed_frame (r : DecodeResult) (ph : Phase) (d : Decoder) :
    (pulsed r ph d).firstIndexSeen = d.firstIndexSeen ∧
      (pulsed r ph d).netCountAtLastIndex = d.netCountAtLastIndex ∧ (pulsed r ph d).calcPPR = d.calcPPR ∧
      (pulsed r ph d).cfgPPR = d.cfgPPR ∧ (pulsed r ph d).aValid = d.aValid ∧ (pulsed r ph d).bValid = d.bValid ∧
      (pulsed r ph d).zPresent = d.zPresent := by
  cases r <;> simp [pulsed]

/-! ### The INDEX transition of one decoder -/

theorem indexed_first (d : Decoder) (h : d.firstIndexSeen = false) :
    indexed d = { d with firstIndexSeen := true, netCountAtLastIndex := d.netCount } := by
  simp [indexed, h]

theorem indexed_later (d : Decoder) (h : d.firstIndexSeen = true) :
    indexed d =
      { d with calcPPR := absU32 (d.netCount - d.netCountAtLastIndex), netCountAtLastIndex := d.netCount } := by
  simp [indexed, h, wrapS32_sub]

/-- What an index pulse always does and what it never writes. -/
theorem indexed_frame (d : Decoder) :
    (indexed d).firstIndexSeen = true ∧ (indexed d).netCountAtLastIndex = d.netCount ∧
      (indexed d).lastPhase = d.lastPhase ∧ (indexed d).netCount = d.netCount ∧
      (indexed d).forwardCount = d.forwardCount ∧ (indexed d).reverseCount = d.reverseCount ∧
      (indexed d).faultCount = d.faultCount ∧ (indexed d).faultLatch = d.faultLatch ∧
      (indexed d).cfgPPR = d.cfgPPR ∧ (indexed d).aValid = d.aValid ∧ (indexed d).bValid = d.bValid ∧
      (indexed d).zPresent = d.zPresent := by
  cases h : d.firstIndexSeen <;> simp [indexed, h]

/-! ### Slot selection -/

theorem slotOf_eq_some (k : Nat) (j : SlotId) : slotOf k = some j ↔ j.val = k := by
  unfold slotOf
  split
  · rw [Option.some_inj, Fin.ext_iff]
    exact eq_comm
  · have := j.isLt
    constructor
    · intro h; cases h
    · intro h; omega

@[simp] theorem slotOf_val (j : SlotId) : slotOf j.val = some j := (slotOf_eq_some _ _).2 rfl

theorem State.boundSlot_eq_some (k : Nat) (j : SlotId) :
    s.boundSlot k = some j ↔ j.val = k ∧ s.bound j = true := by
  simp [State.boundSlot, Option.filter_eq_some_iff, slotOf_eq_some]

theorem State.zBoundSlot_eq_some (k : Nat) (j : SlotId) :
    s.zBoundSlot k = some j ↔ j.val = k ∧ s.zBound j = true := by
  simp [State.zBoundSlot, Option.filter_eq_some_iff, slotOf_eq_some]

theorem State.boundSlot_eq_none (k : Nat) :
    s.boundSlot k = none ↔ ∀ j : SlotId, j.val = k → s.bound j = false := by
  rw [Option.eq_none_iff_forall_ne_some]
  constructor
  · intro h j hj
    by_contra hb
    exact h j ((s.boundSlot_eq_some k j).2 ⟨hj, by simpa using hb⟩)
  · intro h j hj
    obtain ⟨h1, h2⟩ := (s.boundSlot_eq_some k j).1 hj
    simp [h j h1] at h2

theorem State.zBoundSlot_eq_none (k : Nat) :
    s.zBoundSlot k = none ↔ ∀ j : SlotId, j.val = k → s.zBound j = false := by
  rw [Option.eq_none_iff_forall_ne_some]
  constructor
  · intro h j hj
    by_contra hb
    exact h j ((s.zBoundSlot_eq_some k j).2 ⟨hj, by simpa using hb⟩)
  · intro h j hj
    obtain ⟨h1, h2⟩ := (s.zBoundSlot_eq_some k j).1 hj
    simp [h j h1] at h2

theorem State.freeSlot_eq_some (k : SlotId) : s.freeSlot = some k ↔ k.val = s.count.val := slotOf_eq_some _ _

theorem State.freeSlot_eq_none : s.freeSlot = none ↔ s.count = 3 := by
  have := s.count.isLt
  rw [Fin.ext_iff, State.freeSlot, slotOf]
  split
  · simp; omega
  · simp; omega

/-- `Resolve` answers a registered slot. -/
theorem State.resolve_lt {i : Nat} {k : SlotId} (h : s.resolve i = .ok k) : k.val < s.count.val := by
  have hc := s.count.isLt
  unfold State.resolve at h
  split at h
  · cases h
  · split at h
    · cases h; simp; omega
    · split at h
      · cases h
        have := Nat.mod_lt i (show 0 < s.count.val by omega)
        simp; omega
      · cases h

theorem State.resolve_empty (i : Nat) (h : s.count.val = 0) : s.resolve i = .error .empty := by
  simp [State.resolve, h]

theorem State.resolve_registered {i : Nat} {k : SlotId} (hk : k.val = i) (h : i < s.count.val) :
    s.resolve i = .ok k := by
  have := s.count.isLt
  have hk' : Fin.ofNat 3 i = k := by ext; simp; omega
  rw [State.resolve, if_neg (by omega), if_pos h, hk']

/-- Whatever a read does to the state it does to the response port. -/
theorem State.readSlot_eq (i : Nat) (f : Decoder → Word) : ∃ st v, s.readSlot i f = s.respond st v := by
  unfold State.readSlot
  split
  · exact ⟨_, _, rfl⟩
  · exact ⟨_, _, rfl⟩

theorem State.readSlot_of_ok {i : Nat} {k : SlotId} (f : Decoder → Word) (h : s.resolve i = .ok k) :
    s.readSlot i f = s.ret (f (s.slot k)) := by
  simp [State.readSlot, h]

theorem State.readSlot_of_error {i : Nat} {st : Status} (f : Decoder → Word) (h : s.resolve i = .error st) :
    s.readSlot i f = s.raise st := by
  simp [State.readSlot, h]

/-- Everything a table transition can do. -/
theorem State.transition_cases (p n : Phase) (r : DecodeResult) (k : Nat) :
    (∃ st, s.transition p n r k = s.respond st 0) ∨
      ∃ j : SlotId, j.val = k ∧ s.bound j = true ∧ (s.slot j).lastPhase = p ∧
        s.transition p n r k = (s.setSlot j (pulsed r n (s.slot j))).ret 0 := by
  unfold State.transition
  split
  · exact .inl ⟨_, rfl⟩
  · rename_i j hj
    obtain ⟨h1, h2⟩ := (s.boundSlot_eq_some k j).1 hj
    split
    · rename_i hp; exact .inr ⟨j, h1, h2, hp, rfl⟩
    · exact .inl ⟨_, rfl⟩

/-! ### The two halves of CFAULT -/

theorem State.busySlot_eq_some {k : SlotId} (h : s.busySlot = some k) : (s.split.get k).busy = true := by
  unfold State.busySlot at h
  split at h
  · cases h; assumption
  · split at h
    · cases h; assumption
    · split at h
      · cases h; assumption
      · cases h

theorem State.busySlot_eq_none : s.busySlot = none ↔ ∀ k, (s.split.get k).busy = false := by
  constructor
  · intro h k
    unfold State.busySlot at h
    split at h
    · cases h
    · split at h
      · cases h
      · split at h
        · cases h
        · match k with
          | 0 | 1 | 2 => simp_all [Bank.get]
  · intro h
    have h0 := h 0
    have h1 := h 1
    have h2 := h 2
    simp [Bank.get] at h0 h1 h2
    simp [State.busySlot, h0, h1, h2]

end Sys2Proof.Machine
end

