-- ==== Sys2Proof/Laws/Exec.lean ====
section
/-! SUPPORT. Inversion: everything one operation, and one step, can do. -/

namespace Sys2Proof.Machine

/-- The ways an operation can change the state. -/
inductive Effect (s : State) : State → Prop where
  /-- only a response -/
  | response (st : Status) (v : Word) : Effect s (s.respond st v)
  /-- a table transition of a bound slot -/
  | pulse (k : SlotId) (r : DecodeResult) (ph : Phase) (hb : s.bound k = true) :
      Effect s ((s.setSlot k (pulsed r ph (s.slot k))).ret 0)
  /-- an index pulse of a slot with an index callback -/
  | index (k : SlotId) (hz : s.zBound k = true) : Effect s ((s.setSlot k (indexed (s.slot k))).ret 0)
  /-- an atomic CFAULT -/
  | clear (k : SlotId) (hk : k.val < s.count.val) (ha : s.params.consumeAtomic = true) :
      Effect s ((s.clearLatch k).ret (zextBool (s.slot k).faultLatch))
  /-- the read step of a split CFAULT -/
  | splitRead (k : SlotId) (hk : k.val < s.count.val) (ha : s.params.consumeAtomic = false) :
      Effect s (s.splitReadLatch k)
  /-- a slot is assigned and constructed -/
  | assign (k : SlotId) (hk : k.val = s.count.val) (ppr : Word) (av bv zp : Bool) (ph0 : Phase) (st : Status) :
      Effect s ((s.assign k (constructed ppr av bv zp ph0)).respond st (zextSlot k))

theorem readSlot_effect (s : State) (i : Nat) (f : Decoder → Word) : Effect s (s.readSlot i f) := by
  obtain ⟨st, v, h⟩ := s.readSlot_eq i f
  rw [h]; exact .response st v

theorem transition_effect (s : State) (p n : Phase) (r : DecodeResult) (k : Nat) :
    Effect s (s.transition p n r k) := by
  rcases s.transition_cases p n r k with ⟨st, h⟩ | ⟨j, _, hb, _, h⟩
  · rw [h]; exact .response st 0
  · rw [h]; exact .pulse j r n hb

/-- Every operation completes, with one of the six effects. -/
theorem exec_effect (i : Instr) (s : State) : ∃ t, exec i s = .next t ∧ Effect s t := by
  cases i with
  | nop => exact ⟨_, rfl, .response _ _⟩
  | register ppr av bv zp ph0 =>
    simp only [exec, execRegister]
    split
    · exact ⟨_, rfl, .response _ _⟩
    · rename_i k hk
      exact ⟨_, rfl, .assign k ((s.freeSlot_eq_some k).1 hk) ..⟩
  | pulse k ph =>
    simp only [exec, execPulse]
    split
    · exact ⟨_, rfl, .response _ _⟩
    · rename_i j hj
      exact ⟨_, rfl, .pulse j _ _ ((s.boundSlot_eq_some k j).1 hj).2⟩
  | index k =>
    simp only [exec, execIndex]
    split
    · exact ⟨_, rfl, .response _ _⟩
    · rename_i j hj
      exact ⟨_, rfl, .index j ((s.zBoundSlot_eq_some k j).1 hj).2⟩
  | cfault n =>
    simp only [exec, execCfault]
    split
    · exact ⟨_, rfl, .response _ _⟩
    · rename_i k hk
      have := s.resolve_lt hk
      split
      · rename_i ha; exact ⟨_, rfl, .clear k this ha⟩
      · rename_i ha; exact ⟨_, rfl, .splitRead k this (by simpa using ha)⟩
  | rdnet n | rdppr n | inuse n | rdfwd n | rdrev n | rdflt n => exact ⟨_, rfl, readSlot_effect ..⟩
  | trans00 k | trans01 k | trans02 k | trans03 k | trans10 k | trans11 k | trans12 k | trans13 k
  | trans20 k | trans21 k | trans22 k | trans23 k | trans30 k | trans31 k | trans32 k | trans33 k =>
    exact ⟨_, rfl, transition_effect ..⟩

/-- An operation never writes the parameters, the pins or the schedule. -/
theorem Effect.keeps {s t : State} (h : Effect s t) :
    t.params = s.params ∧ t.pins = s.pins ∧ t.inputs = s.inputs := by
  cases h <;> exact ⟨rfl, rfl, rfl⟩

end Sys2Proof.Machine
end

