-- ==== Sys2Proof/Laws/PerInstr.lean ====
section
/-! SUPPORT. The family `RowMatch`: the encoding of every operation lies in its row of spec/opcode_table.json. -/

namespace Sys2Proof.Laws

/-- The bits of `encode i` that the opcode table numbers match its row (spec/30_encoding.md R113, R122). -/
def RowMatch.Statement (i : Instr) : Prop := (encode i).tableBits &&& i.row.mask = i.row.pattern

/-- A word whose one operand is a slot, under the mask of spec/30_encoding.md R113. -/
theorem packSlot_masked (op : BitVec 4) (k : Nat) : packSlot op k &&& 0xF3FF = op ++ 0#12 := by
  unfold packSlot
  generalize BitVec.ofNat 2 k = x
  revert op x
  decide

theorem RowMatch.nop : RowMatch.Statement .nop := rfl

theorem RowMatch.register (ppr : Word) (av bv zp : Bool) (ph0 : Phase) :
    RowMatch.Statement (.register ppr av bv zp ph0) := by
  show packCmd 0x1#4 0#2 ph0 zp bv av &&& 0xFC1F = 0x1000
  revert av bv zp ph0
  decide

theorem RowMatch.pulse (k : Nat) (ph : Phase) : RowMatch.Statement (.pulse k ph) := by
  show packCmd 0x2#4 (BitVec.ofNat 2 k) ph false false false &&& 0xF0FF = 0x2000
  generalize BitVec.ofNat 2 k = x
  revert x ph
  decide

theorem RowMatch.index (k : Nat) : RowMatch.Statement (.index k) := packSlot_masked 0x3#4 k

theorem RowMatch.rdnet (k : Nat) : RowMatch.Statement (.rdnet k) := packSlot_masked 0x4#4 k

theorem RowMatch.cfault (k : Nat) : RowMatch.Statement (.cfault k) := packSlot_masked 0x5#4 k

theorem RowMatch.rdppr (k : Nat) : RowMatch.Statement (.rdppr k) := packSlot_masked 0x6#4 k

theorem RowMatch.inuse (k : Nat) : RowMatch.Statement (.inuse k) := packSlot_masked 0x7#4 k

theorem RowMatch.rdfwd (k : Nat) : RowMatch.Statement (.rdfwd k) := packSlot_masked 0x8#4 k

theorem RowMatch.rdrev (k : Nat) : RowMatch.Statement (.rdrev k) := packSlot_masked 0x9#4 k

theorem RowMatch.rdflt (k : Nat) : RowMatch.Statement (.rdflt k) := packSlot_masked 0xa#4 k

theorem RowMatch.trans00 (k : Nat) : RowMatch.Statement (.trans00 k) :=
  show (0x0#4).setWidth 16 &&& 0xF = 0x0 from by decide

theorem RowMatch.trans01 (k : Nat) : RowMatch.Statement (.trans01 k) :=
  show (0x1#4).setWidth 16 &&& 0xF = 0x1 from by decide

theorem RowMatch.trans02 (k : Nat) : RowMatch.Statement (.trans02 k) :=
  show (0x2#4).setWidth 16 &&& 0xF = 0x2 from by decide

theorem RowMatch.trans03 (k : Nat) : RowMatch.Statement (.trans03 k) :=
  show (0x3#4).setWidth 16 &&& 0xF = 0x3 from by decide

theorem RowMatch.trans10 (k : Nat) : RowMatch.Statement (.trans10 k) :=
  show (0x4#4).setWidth 16 &&& 0xF = 0x4 from by decide

theorem RowMatch.trans11 (k : Nat) : RowMatch.Statement (.trans11 k) :=
  show (0x5#4).setWidth 16 &&& 0xF = 0x5 from by decide

theorem RowMatch.trans12 (k : Nat) : RowMatch.Statement (.trans12 k) :=
  show (0x6#4).setWidth 16 &&& 0xF = 0x6 from by decide

theorem RowMatch.trans13 (k : Nat) : RowMatch.Statement (.trans13 k) :=
  show (0x7#4).setWidth 16 &&& 0xF = 0x7 from by decide

theorem RowMatch.trans20 (k : Nat) : RowMatch.Statement (.trans20 k) :=
  show (0x8#4).setWidth 16 &&& 0xF = 0x8 from by decide

theorem RowMatch.trans21 (k : Nat) : RowMatch.Statement (.trans21 k) :=
  show (0x9#4).setWidth 16 &&& 0xF = 0x9 from by decide

theorem RowMatch.trans22 (k : Nat) : RowMatch.Statement (.trans22 k) :=
  show (0xa#4).setWidth 16 &&& 0xF = 0xa from by decide

theorem RowMatch.trans23 (k : Nat) : RowMatch.Statement (.trans23 k) :=
  show (0xb#4).setWidth 16 &&& 0xF = 0xb from by decide

theorem RowMatch.trans30 (k : Nat) : RowMatch.Statement (.trans30 k) :=
  show (0xc#4).setWidth 16 &&& 0xF = 0xc from by decide

theorem RowMatch.trans31 (k : Nat) : RowMatch.Statement (.trans31 k) :=
  show (0xd#4).setWidth 16 &&& 0xF = 0xd from by decide

theorem RowMatch.trans32 (k : Nat) : RowMatch.Statement (.trans32 k) :=
  show (0xe#4).setWidth 16 &&& 0xF = 0xe from by decide

theorem RowMatch.trans33 (k : Nat) : RowMatch.Statement (.trans33 k) :=
  show (0xf#4).setWidth 16 &&& 0xF = 0xf from by decide

end Sys2Proof.Laws
end

