-- ==== Sys2Proof/Safety.lean ====
section
/-! DEFINITION. The terms in which claims about the machine are made: the invariant of every reachable state, the slot
an operation may write, and sequences of operations. -/

namespace Sys2Proof.Machine

/-! ### The invariant -/

/-- Every field but the configuration is at its construction value (spec/10_state.md R43, R46). -/
def Decoder.AtConstruction (d : Decoder) : Prop :=
  d.lastPhase = 0 ∧ d.netCount = 0 ∧ d.forwardCount = 0 ∧ d.reverseCount = 0 ∧ d.faultCount = 0 ∧
    d.faultLatch = false ∧ d.firstIndexSeen = false ∧ d.netCountAtLastIndex = 0 ∧ d.calcPPR = 0

/-- The net count is the forward count less the reverse count, modulo 2^32 (spec/10_state.md R40). -/
def State.NetCountConsistent (s : State) : Prop :=
  ∀ k, (s.slot k).netCount = (s.slot k).forwardCount - (s.slot k).reverseCount

/-- A slot that is not bound has never counted (spec/10_state.md R43). -/
def State.UnboundUntouched (s : State) : Prop :=
  ∀ k, s.bound k = false → (s.slot k).AtConstruction

/-- Before the first index pulse there is no snapshot and no result (spec/10_state.md R44). -/
def State.IndexConsistent (s : State) : Prop :=
  ∀ k, (s.slot k).firstIndexSeen = false → (s.slot k).calcPPR = 0 ∧ (s.slot k).netCountAtLastIndex = 0

/-- An index pulse is seen only where an index callback is bound (spec/42_index.md R160). -/
def State.IndexNeedsCallback (s : State) : Prop :=
  ∀ k, (s.slot k).firstIndexSeen = true → s.zBound k = true

/-- A slot that is not registered is as reset left it (spec/10_state.md R45). -/
def State.UnassignedZero (s : State) : Prop :=
  ∀ k, s.count.val ≤ k.val → s.slot k = Decoder.zero

/-- A source is pending only under `edge_pending` and only where its callback is bound (spec/60_exceptions.md R221,
R222). -/
def State.PendingJustified (s : State) : Prop :=
  ∀ k c, (s.pending.get k).get c = true →
    s.params.irqModel = .edgePending ∧ s.bound k = true ∧ (c = .z → s.zBound k = true)

/-- A CFAULT is split only where `CONSUME_ATOMIC` is false and on a registered slot, and one at a time
(spec/43_read.md R174). -/
def State.SplitJustified (s : State) : Prop :=
  (∀ k, (s.split.get k).busy = true → s.params.consumeAtomic = false ∧ k.val < s.count.val) ∧
    ∀ j k, (s.split.get j).busy = true → (s.split.get k).busy = true → j = k

/-- What every reachable state satisfies. -/
structure State.Inv (s : State) : Prop where
  netCount : s.NetCountConsistent
  unbound : s.UnboundUntouched
  index : s.IndexConsistent
  callback : s.IndexNeedsCallback
  unassigned : s.UnassignedZero
  pending : s.PendingJustified
  split : s.SplitJustified

/-! ### Which slot an operation concerns -/

/-- The slot that an operation's own rule lets it write: the slot its operand names, the slot its read index resolves
to, or the slot that REGISTER assigns (spec/10_state.md R36). -/
def targetSlot (i : Instr) (s : State) : Option SlotId :=
  match i with
  | .nop => none
  | .register _ _ _ _ _ => s.freeSlot
  | .pulse k _ => slotOf k
  | .index k => slotOf k
  | .rdnet n => (s.resolve n).toOption
  | .cfault n => (s.resolve n).toOption
  | .rdppr n => (s.resolve n).toOption
  | .inuse n => (s.resolve n).toOption
  | .rdfwd n => (s.resolve n).toOption
  | .rdrev n => (s.resolve n).toOption
  | .rdflt n => (s.resolve n).toOption
  | .trans00 k => slotOf k
  | .trans01 k => slotOf k
  | .trans02 k => slotOf k
  | .trans03 k => slotOf k
  | .trans10 k => slotOf k
  | .trans11 k => slotOf k
  | .trans12 k => slotOf k
  | .trans13 k => slotOf k
  | .trans20 k => slotOf k
  | .trans21 k => slotOf k
  | .trans22 k => slotOf k
  | .trans23 k => slotOf k
  | .trans30 k => slotOf k
  | .trans31 k => slotOf k
  | .trans32 k => slotOf k
  | .trans33 k => slotOf k

/-! ### Sequences of operations -/

/-- Operations executed one after the other (spec/20_memory.md R70), stopping at the first that does not complete. -/
def execAll : List Instr → State → Host.Outcome State Fault Refusal
  | [], s => .next s
  | i :: is, s =>
    match exec i s with
    | .next t => execAll is t
    | .fault f => .fault f
    | .refused r => .refused r

/-- `FEED k, p1, ..., pn` (spec/30_encoding.md R121). -/
def feed (k : Nat) (phases : List Phase) : List Instr := phases.map (Instr.pulse k)

/-- Each phase is adjacent to the one before it in the valid cycle, starting from `p` (spec/70_reset_and_hazards.md
R263). -/
def AdjacentPath : Phase → List Phase → Prop
  | _, [] => True
  | p, q :: qs => (q = nextPhase p ∨ q = prevPhase p) ∧ AdjacentPath q qs

/-- The number of forward steps of a phase sequence that starts from `p`. -/
def forwardSteps : Phase → List Phase → Nat
  | _, [] => 0
  | p, q :: qs => (if q = nextPhase p then 1 else 0) + forwardSteps q qs

/-- The number of reverse steps of a phase sequence that starts from `p`. -/
def reverseSteps : Phase → List Phase → Nat
  | _, [] => 0
  | p, q :: qs => (if q = prevPhase p then 1 else 0) + reverseSteps q qs

/-- The interrupt-side operations. -/
def isInterruptOperation (i : Instr) : Prop := i.context = .interrupt

end Sys2Proof.Machine
end

