-- ==== Sys2Proof/Certificates/Slice0/Obligations.lean ====
section
/-! DEFINITION. The statements for the provers, each with the rule of spec/ it formalises. -/

open Sys2Proof Sys2Proof.Machine

/-! ### Encoding -/

/-- Decoding the encoding of a well-formed operation gives it back, at every operand value (spec/30_encoding.md R113,
R119, R122). -/
def Obligations.DecodeOfEncodeGivesTheOperation : Prop :=
  ∀ i : Instr, WellFormed i = true → decode (encode i) = .ok i

/-- A request that decodes is the encoding of what it decodes to, `wdata` counting only where the operation reads it
(spec/30_encoding.md R113, R119). -/
def Obligations.EncodeOfDecodeGivesTheRequest : Prop :=
  ∀ (r : Request) (i : Instr), decode r = .ok i → WellFormed i = true ∧ encode i = r.canonical

/-- A command word decodes when, and only when, exactly one row of R113 matches it; a word that no row matches changes
no state and answers `(ILLEGAL, 0)` (spec/30_encoding.md R116). -/
def Obligations.CommandWordIsLegalIffOneRowMatches : Prop :=
  (∀ (w : BitVec 16) (wdata : Word), (∃ i, decode (.cmd w wdata) = .ok i) ↔
    ∃! row, row ∈ cmdRows ∧ w &&& row.mask = row.pattern) ∧
  (∀ (s : State) (w : BitVec 16) (wdata : Word) (rest : List Input),
    s.inputs = .request (.cmd w wdata) :: rest → (∀ row ∈ cmdRows, w &&& row.mask ≠ row.pattern) →
    step s = .next ((s.setInputs rest).respond .illegal 0))

/-- Command words of the spec's own test vectors decode to the operations named there (spec/95_test_vectors.md V6, V9,
P1 to P4), one for each operation of the command port, and four illegal ones are refused. The last two clauses are no
words of those vectors: that a table index with a slot is a request is the model's choice, log entry 3. -/
def Obligations.SpecWordsDecodeAsNamed : Prop :=
  decode (.cmd 0x0000 0) = .ok .nop ∧
  decode (.cmd 0x10E0 0x258) = .ok (.register 600 true true true 0) ∧
  decode (.cmd 0x1360 0x400) = .ok (.register 1024 true true false 3) ∧
  decode (.cmd 0x2D00 0) = .ok (.pulse 3 1) ∧ decode (.cmd 0x3400 0) = .ok (.index 1) ∧
  decode (.cmd 0x4C00 0) = .ok (.rdnet 3) ∧ decode (.cmd 0x5400 0) = .ok (.cfault 1) ∧
  decode (.cmd 0x6400 0) = .ok (.rdppr 1) ∧ decode (.cmd 0x7800 0) = .ok (.inuse 2) ∧
  decode (.cmd 0x8800 0) = .ok (.rdfwd 2) ∧ decode (.cmd 0x9400 0) = .ok (.rdrev 1) ∧
  decode (.cmd 0xA400 0) = .ok (.rdflt 1) ∧
  decode (.cmd 0x10E1 0) = .error .reservedBits ∧ decode (.cmd 0x2180 0) = .error .unusedField ∧
  decode (.cmd 0x1400 0) = .error .unusedField ∧ decode (.cmd 0xB000 0) = .error .reservedOp ∧
  decode (.trans 0x7 0) = .ok (.trans13 0) ∧ decode (.trans 0xB 2) = .ok (.trans23 2)

/-! ### The DecodeTable -/

/-- The table agrees with its closed form on all sixteen indices (spec/30_encoding.md R105, which the spec
marks as derived: "it agrees with rule R100 on all 16 indices"). -/
def Obligations.DecodeTableHasClosedForm : Prop :=
  ∀ prev new : Phase, decodePair prev new =
    if prev ^^^ new = 0 then .noChg
    else if prev ^^^ new = 3 then .fault
    else if prev.getLsbD 0 ^^ new.getLsbD 1 then .rev
    else .fwd

/-- The table in result codes is the packed constant (spec/30_encoding.md R106, which the spec marks as derived). -/
def Obligations.DecodeTableIsThePackedConstant : Prop :=
  ∀ idx : BitVec 4, resultCode (tableRead idx) = (0x1EC963B4#32 >>> (2 * idx.toNat)).extractLsb' 0 2

/-- The four classes of the table: identical codes, the forward pairs, the reverse pairs, and the diagonal pairs
(spec/30_encoding.md R101 to R104), as pairs and as table indices. -/
def Obligations.DecodeTableClasses : Prop :=
  (∀ p, decodePair p p = .noChg) ∧
  (∀ p, decodePair p (nextPhase p) = .fwd) ∧
  (nextPhase 0 = 1 ∧ nextPhase 1 = 3 ∧ nextPhase 3 = 2 ∧ nextPhase 2 = 0) ∧
  (∀ p, decodePair p (prevPhase p) = .rev) ∧
  (prevPhase 1 = 0 ∧ prevPhase 3 = 1 ∧ prevPhase 2 = 3 ∧ prevPhase 0 = 2) ∧
  (∀ p n, decodePair p n = .fault ↔ p ^^^ n = 0b11) ∧
  (∀ p n, decodePair p n = .fault ↔ (p, n) ∈ ([(0, 3), (3, 0), (1, 2), (2, 1)] : List (Phase × Phase))) ∧
  (∀ idx, tableRead idx = .noChg ↔ idx ∈ ([0, 5, 10, 15] : List (BitVec 4))) ∧
  (∀ idx, tableRead idx = .fwd ↔ idx ∈ ([1, 7, 14, 8] : List (BitVec 4))) ∧
  (∀ idx, tableRead idx = .rev ↔ idx ∈ ([4, 13, 11, 2] : List (BitVec 4))) ∧
  (∀ idx, tableRead idx = .fault ↔ idx ∈ ([3, 12, 6, 9] : List (BitVec 4)))

/-- The symmetries of the table: reversing a pair swaps Forward and Reverse, complementing both channels changes
nothing, swapping the channels swaps Forward and Reverse, and each row and column holds each result exactly once
(spec/30_encoding.md R107, which the spec marks as derived). -/
def Obligations.DecodeTableSymmetries : Prop :=
  let opposite : DecodeResult → DecodeResult := fun r =>
    match r with
    | .fwd => .rev
    | .rev => .fwd
    | .noChg => .noChg
    | .fault => .fault
  let swap : Phase → Phase := fun p => p.extractLsb' 0 1 ++ p.extractLsb' 1 1
  (∀ p n, decodePair n p = opposite (decodePair p n)) ∧
  (∀ p n, decodePair (3 - p) (3 - n) = decodePair p n) ∧
  (∀ p n, decodePair (swap p) (swap n) = opposite (decodePair p n)) ∧
  (∀ p r, ∃! n, decodePair p n = r) ∧ (∀ n r, ∃! p, decodePair p n = r)

/-! ### Reset and the response port -/

/-- After power-on reset no slot is registered, every field of every slot is zero, and no source is pending and no
CFAULT split, so no read reaches a slot and no slot is bound, whatever the parameters (spec/10_state.md R45;
spec/70_reset_and_hazards.md R250). -/
def Obligations.ResetLeavesTheBankEmptyAndZero : Prop :=
  ∀ p : Params, (State.resetWith p).count = 0 ∧ (State.resetWith p).params = p ∧
    (∀ k, (State.resetWith p).slot k =
      { lastPhase := 0, netCount := 0, forwardCount := 0, reverseCount := 0, faultCount := 0, faultLatch := false,
        firstIndexSeen := false, netCountAtLastIndex := 0, calcPPR := 0, cfgPPR := 0, aValid := false,
        bValid := false, zPresent := false }) ∧
    (∀ k c, ((State.resetWith p).pending.get k).get c = false) ∧
    (∀ k, ((State.resetWith p).split.get k).busy = false) ∧
    (∀ i, (State.resetWith p).resolve i = .error .empty) ∧ (∀ k, (State.resetWith p).bound k = false)

/-- The invariant holds after power-on reset, whatever the parameters. -/
def Obligations.ResetSatisfiesTheInvariant : Prop :=
  ∀ p : Params, (State.resetWith p).Inv

/-- The status codes are numbered 0 to 6, no two alike, and 7 is never produced (spec/60_exceptions.md R212). -/
def Obligations.StatusCodesAreNumberedAndSevenIsUnused : Prop :=
  Status.code .ok = 0 ∧ Status.code .configCapacity = 1 ∧ Status.code .configPins = 2 ∧ Status.code .indexRange = 3 ∧
    Status.code .empty = 4 ∧ Status.code .unbound = 5 ∧ Status.code .illegal = 6 ∧
    (∀ a b : Status, a.code = b.code → a = b) ∧ (∀ a : Status, a.code ≠ 7)

/-- NOP is the word `0x0000`, and it changes nothing but the response, `(OK, 0)` (spec/30_encoding.md R114). -/
def Obligations.NopOnlyResponds : Prop :=
  encode .nop = .cmd 0x0000 0 ∧ (∀ wdata, decode (.cmd 0x0000 wdata) = .ok .nop) ∧
    (∀ s : State, exec .nop s = .next (s.respond .ok 0))

/-- The derived flags: in use is both pins valid, bound is registered and in use, and the index callback needs a Z pin
besides (spec/10_state.md R34, R35). -/
def Obligations.DerivedFlagsOfASlot : Prop :=
  ∀ (s : State) (k : SlotId),
    ((s.slot k).inUse = true ↔ (s.slot k).aValid = true ∧ (s.slot k).bValid = true) ∧
    (s.bound k = true ↔ k.val < s.count.val ∧ (s.slot k).inUse = true) ∧
    (s.zBound k = true ↔ s.bound k = true ∧ (s.slot k).zPresent = true)

/-! ### PULSE and the table's transitions -/

/-- PULSE on a bound slot: the slot's decoder is rewritten by the result of the pair (last phase, new phase), the
response is `(OK, 0)`, and nothing else changes. On a slot that is not registered or not in use it changes no state and
answers `(UNBOUND, 0)` (spec/41_pulse.md R141, R142). -/
def Obligations.PulseAppliesTheTableOrAnswersUnbound : Prop :=
  (∀ (s : State) (k : Nat) (ph : Phase) (j : SlotId) (d : Decoder),
    j.val = k → s.bound j = true → s.slot j = d →
    exec (.pulse k ph) s = .next ((s.setSlot j
      (match decodePair d.lastPhase ph with
        | .fwd => { d with lastPhase := ph, forwardCount := d.forwardCount + 1, netCount := d.netCount + 1 }
        | .rev => { d with lastPhase := ph, reverseCount := d.reverseCount + 1, netCount := d.netCount - 1 }
        | .noChg => { d with lastPhase := ph }
        | .fault => { d with lastPhase := ph, faultCount := d.faultCount + 1, faultLatch := true })).respond .ok 0)) ∧
  (∀ (s : State) (k : Nat) (ph : Phase),
    (s.count.val ≤ k ∨ ∃ j : SlotId, j.val = k ∧ (s.slot j).inUse = false) →
    exec (.pulse k ph) s = .next (s.respond .unbound 0))

/-- A forward pair adds one to `forwardCount` and to `netCount` modulo 2^32 and leaves `reverseCount`, `faultCount` and
`faultLatch` as they were (spec/41_pulse.md R143). -/
def Obligations.ForwardPairCountsUp : Prop :=
  ∀ (s : State) (j : SlotId) (ph : Phase), s.bound j = true →
    ((s.slot j).lastPhase, ph) ∈ ([(0, 1), (1, 3), (3, 2), (2, 0)] : List (Phase × Phase)) →
    ∃ t, exec (.pulse j.val ph) s = .next t ∧
      (t.slot j).forwardCount.toNat = ((s.slot j).forwardCount.toNat + 1) % 2 ^ 32 ∧
      (t.slot j).netCount.toInt = ((s.slot j).netCount.toInt + 1).bmod (2 ^ 32) ∧
      (t.slot j).reverseCount = (s.slot j).reverseCount ∧ (t.slot j).faultCount = (s.slot j).faultCount ∧
      (t.slot j).faultLatch = (s.slot j).faultLatch

/-- A reverse pair adds one to `reverseCount` and takes one from `netCount` modulo 2^32 and leaves `forwardCount`,
`faultCount` and `faultLatch` as they were (spec/41_pulse.md R144). -/
def Obligations.ReversePairCountsDown : Prop :=
  ∀ (s : State) (j : SlotId) (ph : Phase), s.bound j = true →
    ((s.slot j).lastPhase, ph) ∈ ([(1, 0), (3, 1), (2, 3), (0, 2)] : List (Phase × Phase)) →
    ∃ t, exec (.pulse j.val ph) s = .next t ∧
      (t.slot j).reverseCount.toNat = ((s.slot j).reverseCount.toNat + 1) % 2 ^ 32 ∧
      (t.slot j).netCount.toInt = ((s.slot j).netCount.toInt - 1).bmod (2 ^ 32) ∧
      (t.slot j).forwardCount = (s.slot j).forwardCount ∧ (t.slot j).faultCount = (s.slot j).faultCount ∧
      (t.slot j).faultLatch = (s.slot j).faultLatch

/-- A PULSE with the phase the slot already holds leaves the state as it was (spec/41_pulse.md R145). -/
def Obligations.UnchangedPhaseChangesNothing : Prop :=
  ∀ (s : State) (j : SlotId), s.bound j = true →
    exec (.pulse j.val (s.slot j).lastPhase) s = .next (s.respond .ok 0)

/-- A diagonal pair adds one to `faultCount`, sets the latch whatever it was, moves `lastPhase` to the new code, leaves
the other counts, and answers `OK` (spec/41_pulse.md R146). -/
def Obligations.DiagonalPairRecordsAFault : Prop :=
  ∀ (s : State) (j : SlotId) (ph : Phase), s.bound j = true →
    ((s.slot j).lastPhase, ph) ∈ ([(0, 3), (3, 0), (1, 2), (2, 1)] : List (Phase × Phase)) →
    ∃ t, exec (.pulse j.val ph) s = .next t ∧ t.response.status = .ok ∧
      (t.slot j).netCount = (s.slot j).netCount ∧ (t.slot j).forwardCount = (s.slot j).forwardCount ∧
      (t.slot j).reverseCount = (s.slot j).reverseCount ∧
      (t.slot j).faultCount.toNat = ((s.slot j).faultCount.toNat + 1) % 2 ^ 32 ∧
      (t.slot j).faultLatch = true ∧ (t.slot j).lastPhase = ph

/-- The four Forward rows of the table, executed on a bound slot whose last phase is the row's (spec/41_pulse.md R143;
that a row is an instruction is the model's choice, log entry 3). -/
def Obligations.ForwardTransitionRowsApplyTheirEntry : Prop :=
  ∀ (s : State) (k : Nat) (j : SlotId) (d : Decoder), j.val = k → s.bound j = true → s.slot j = d →
    (d.lastPhase = 0 → exec (.trans01 k) s =
      .next ((s.setSlot j { d with lastPhase := 1, forwardCount := d.forwardCount + 1, netCount := d.netCount + 1 }).respond .ok 0)) ∧
    (d.lastPhase = 1 → exec (.trans13 k) s =
      .next ((s.setSlot j { d with lastPhase := 3, forwardCount := d.forwardCount + 1, netCount := d.netCount + 1 }).respond .ok 0)) ∧
    (d.lastPhase = 2 → exec (.trans20 k) s =
      .next ((s.setSlot j { d with lastPhase := 0, forwardCount := d.forwardCount + 1, netCount := d.netCount + 1 }).respond .ok 0)) ∧
    (d.lastPhase = 3 → exec (.trans32 k) s =
      .next ((s.setSlot j { d with lastPhase := 2, forwardCount := d.forwardCount + 1, netCount := d.netCount + 1 }).respond .ok 0))

/-- The four Reverse rows of the table, executed on a bound slot whose last phase is the row's (spec/41_pulse.md R144;
that a row is an instruction is the model's choice, log entry 3). -/
def Obligations.ReverseTransitionRowsApplyTheirEntry : Prop :=
  ∀ (s : State) (k : Nat) (j : SlotId) (d : Decoder), j.val = k → s.bound j = true → s.slot j = d →
    (d.lastPhase = 0 → exec (.trans02 k) s =
      .next ((s.setSlot j { d with lastPhase := 2, reverseCount := d.reverseCount + 1, netCount := d.netCount - 1 }).respond .ok 0)) ∧
    (d.lastPhase = 1 → exec (.trans10 k) s =
      .next ((s.setSlot j { d with lastPhase := 0, reverseCount := d.reverseCount + 1, netCount := d.netCount - 1 }).respond .ok 0)) ∧
    (d.lastPhase = 2 → exec (.trans23 k) s =
      .next ((s.setSlot j { d with lastPhase := 3, reverseCount := d.reverseCount + 1, netCount := d.netCount - 1 }).respond .ok 0)) ∧
    (d.lastPhase = 3 → exec (.trans31 k) s =
      .next ((s.setSlot j { d with lastPhase := 1, reverseCount := d.reverseCount + 1, netCount := d.netCount - 1 }).respond .ok 0))

/-- The four NoChange rows of the table, executed on a bound slot whose last phase is the row's (spec/41_pulse.md R145;
that a row is an instruction is the model's choice, log entry 3). -/
def Obligations.NoChangeTransitionRowsApplyTheirEntry : Prop :=
  ∀ (s : State) (k : Nat) (j : SlotId) (d : Decoder), j.val = k → s.bound j = true → s.slot j = d →
    (d.lastPhase = 0 → exec (.trans00 k) s =
      .next ((s.setSlot j { d with lastPhase := 0 }).respond .ok 0)) ∧
    (d.lastPhase = 1 → exec (.trans11 k) s =
      .next ((s.setSlot j { d with lastPhase := 1 }).respond .ok 0)) ∧
    (d.lastPhase = 2 → exec (.trans22 k) s =
      .next ((s.setSlot j { d with lastPhase := 2 }).respond .ok 0)) ∧
    (d.lastPhase = 3 → exec (.trans33 k) s =
      .next ((s.setSlot j { d with lastPhase := 3 }).respond .ok 0))

/-- The four Fault rows of the table, executed on a bound slot whose last phase is the row's (spec/41_pulse.md R146;
that a row is an instruction is the model's choice, log entry 3). -/
def Obligations.FaultTransitionRowsApplyTheirEntry : Prop :=
  ∀ (s : State) (k : Nat) (j : SlotId) (d : Decoder), j.val = k → s.bound j = true → s.slot j = d →
    (d.lastPhase = 0 → exec (.trans03 k) s =
      .next ((s.setSlot j { d with lastPhase := 3, faultCount := d.faultCount + 1, faultLatch := true }).respond .ok 0)) ∧
    (d.lastPhase = 1 → exec (.trans12 k) s =
      .next ((s.setSlot j { d with lastPhase := 2, faultCount := d.faultCount + 1, faultLatch := true }).respond .ok 0)) ∧
    (d.lastPhase = 2 → exec (.trans21 k) s =
      .next ((s.setSlot j { d with lastPhase := 1, faultCount := d.faultCount + 1, faultLatch := true }).respond .ok 0)) ∧
    (d.lastPhase = 3 → exec (.trans30 k) s =
      .next ((s.setSlot j { d with lastPhase := 0, faultCount := d.faultCount + 1, faultLatch := true }).respond .ok 0))

/-- A transition row that the slot's last phase does not select has no effect, and one on an unbound slot answers
`UNBOUND`. The model's choice, log entry 3. -/
def Obligations.UnselectedTransitionHasNoEffect : Prop :=
  ∀ (s : State) (prev new : Phase) (k : Nat),
    (∀ j : SlotId, j.val = k → s.bound j = true → (s.slot j).lastPhase ≠ prev →
      exec (transInstr prev new k) s = .next (s.respond .ok 0)) ∧
    ((s.count.val ≤ k ∨ ∃ j : SlotId, j.val = k ∧ (s.slot j).inUse = false) →
      exec (transInstr prev new k) s = .next (s.respond .unbound 0))

/-- PULSE is the transition row that the pair (last phase, new phase) selects: the operation that reads the table and
the sixteen rows that state their own result agree (spec/41_pulse.md R142, spec/30_encoding.md R122). -/
def Obligations.PulseRunsTheSelectedTransitionRow : Prop :=
  ∀ (s : State) (k : Nat) (ph : Phase),
    (∀ j : SlotId, j.val = k → exec (.pulse k ph) s = exec (transInstr (s.slot j).lastPhase ph k) s) ∧
    (3 ≤ k → ∀ prev, exec (.pulse k ph) s = exec (transInstr prev ph k) s)

/-- After `m` steps of the encoder in one direction the next PULSE sees `m` modulo 4: one step in the true direction, a
Fault, one step in the wrong direction, or nothing (spec/70_reset_and_hazards.md R264, R254; the spec's inference). -/
def Obligations.LateSamplingSeesTheMovementModuloFour : Prop :=
  ∀ (s : State) (j : SlotId) (m : Nat), s.bound j = true →
    (∃ t, exec (.pulse j.val (nextPhase^[m] (s.slot j).lastPhase)) s = .next t ∧
      (m % 4 = 0 → t.slot j = s.slot j) ∧
      (m % 4 = 1 → (t.slot j).netCount = (s.slot j).netCount + 1 ∧ (t.slot j).faultCount = (s.slot j).faultCount) ∧
      (m % 4 = 2 → (t.slot j).netCount = (s.slot j).netCount ∧
        (t.slot j).faultCount = (s.slot j).faultCount + 1 ∧ (t.slot j).faultLatch = true) ∧
      (m % 4 = 3 → (t.slot j).netCount = (s.slot j).netCount - 1 ∧ (t.slot j).faultCount = (s.slot j).faultCount)) ∧
    (∃ t, exec (.pulse j.val (prevPhase^[m] (s.slot j).lastPhase)) s = .next t ∧
      (m % 4 = 0 → t.slot j = s.slot j) ∧
      (m % 4 = 1 → (t.slot j).netCount = (s.slot j).netCount - 1 ∧ (t.slot j).faultCount = (s.slot j).faultCount) ∧
      (m % 4 = 2 → (t.slot j).netCount = (s.slot j).netCount ∧
        (t.slot j).faultCount = (s.slot j).faultCount + 1 ∧ (t.slot j).faultLatch = true) ∧
      (m % 4 = 3 → (t.slot j).netCount = (s.slot j).netCount + 1 ∧ (t.slot j).faultCount = (s.slot j).faultCount))

/-- Ideal sampling: when each PULSE of a freshly constructed slot shows the phase one step from the one before, the
counts are the steps taken (spec/70_reset_and_hazards.md R263, which the spec marks as derived). -/
def Obligations.IdealSamplingCountsEveryStep : Prop :=
  ∀ (s : State) (j : SlotId) (ppr : Word) (zp : Bool) (q0 : Phase) (qs : List Phase),
    s.bound j = true → s.slot j = constructed ppr true true zp q0 → AdjacentPath q0 qs →
    ∃ t, execAll (feed j.val qs) s = .next t ∧
      (t.slot j).lastPhase = qs.getLast?.getD q0 ∧
      (t.slot j).forwardCount = BitVec.ofNat 32 (forwardSteps q0 qs) ∧
      (t.slot j).reverseCount = BitVec.ofNat 32 (reverseSteps q0 qs) ∧
      (t.slot j).faultCount = 0 ∧ (t.slot j).faultLatch = false ∧
      (t.slot j).netCount = BitVec.ofInt 32 ((forwardSteps q0 qs : Int) - (reverseSteps q0 qs : Int))

/-! ### INDEX -/

/-- INDEX on a slot with a bound index callback: the first stores the net count, every later one also stores the
magnitude of the wrapped change; the response is `(OK, 0)` and nothing else changes. On a slot that is not registered,
not in use or without a Z pin it changes no state and answers `(UNBOUND, 0)` (spec/42_index.md R160, R161). -/
def Obligations.IndexStoresTheChangeOrAnswersUnbound : Prop :=
  (∀ (s : State) (k : Nat) (j : SlotId) (d : Decoder), j.val = k → s.zBound j = true → s.slot j = d →
    (d.firstIndexSeen = false → exec (.index k) s =
      .next ((s.setSlot j { d with firstIndexSeen := true, netCountAtLastIndex := d.netCount }).respond .ok 0)) ∧
    (d.firstIndexSeen = true → exec (.index k) s =
      .next ((s.setSlot j
        { d with
          calcPPR := BitVec.ofNat 32 ((d.netCount.toInt - d.netCountAtLastIndex.toInt).bmod (2 ^ 32)).natAbs
          netCountAtLastIndex := d.netCount }).respond .ok 0))) ∧
  (∀ (s : State) (k : Nat),
    (s.count.val ≤ k ∨ ∃ j : SlotId, j.val = k ∧ ((s.slot j).inUse = false ∨ (s.slot j).zPresent = false)) →
    exec (.index k) s = .next (s.respond .unbound 0))

/-- The corners of the calibration arithmetic: equal counts give 0, the direction is lost, a difference that fits the
signed range gives its exact magnitude, a difference of -2^31 or 2^31 gives 2^31, and no result is larger
(spec/42_index.md R166; spec/43_read.md R175). -/
def Obligations.CalibrationMagnitudeCorners : Prop :=
  ∀ net last : Word,
    let ppr := absU32 (wrapS32 (net.toInt - last.toInt))
    (net = last → ppr = 0) ∧
    ppr = absU32 (wrapS32 (last.toInt - net.toInt)) ∧
    (-(2 ^ 31) ≤ net.toInt - last.toInt → net.toInt - last.toInt < 2 ^ 31 →
      ppr.toNat = (net.toInt - last.toInt).natAbs) ∧
    (net.toInt - last.toInt = 2 ^ 31 → ppr = 0x80000000) ∧
    ppr.toNat ≤ 2 ^ 31

/-- Between two index pulses of a slot, whatever other operations come in between on whatever slots, the second stores
the magnitude of the change of the net count; a first index pulse leaves the stored result alone (spec/42_index.md
R162). -/
def Obligations.IndexMeasuresTheChangeSinceThePreviousIndex : Prop :=
  ∀ (s : State) (j : SlotId) (between : List Instr), s.zBound j = true → (∀ i ∈ between, i ≠ .index j.val) →
    ∃ s1 s2 s3, exec (.index j.val) s = .next s1 ∧ execAll between s1 = .next s2 ∧ exec (.index j.val) s2 = .next s3 ∧
      ((s.slot j).firstIndexSeen = false → (s1.slot j).calcPPR = (s.slot j).calcPPR) ∧
      (s1.slot j).netCount = (s.slot j).netCount ∧
      (s3.slot j).calcPPR.toNat = (((s2.slot j).netCount.toInt - (s.slot j).netCount.toInt).bmod (2 ^ 32)).natAbs

/-! ### Reads -/

/-- Resolution of a read index: `EMPTY` with no slot registered; the slot itself when registered; otherwise the
remainder modulo the slot count, or `INDEX_RANGE`, by `OOR_POLICY` (spec/44_registry.md R196, R197). -/
def Obligations.ReadIndexResolution : Prop :=
  ∀ (s : State) (i : Nat),
    (s.count.val = 0 → s.resolve i = .error .empty) ∧
    (i < s.count.val → ∃ k : SlotId, s.resolve i = .ok k ∧ k.val = i) ∧
    (0 < s.count.val → s.count.val ≤ i → s.params.oorPolicy = .wrap →
      ∃ k : SlotId, s.resolve i = .ok k ∧ k.val = i % s.count.val) ∧
    (0 < s.count.val → s.count.val ≤ i → s.params.oorPolicy = .fault → s.resolve i = .error .indexRange)

/-- The six non-destructive reads answer `(OK, value)` of the resolved slot and change nothing else (spec/43_read.md
R171, R175 to R179). -/
def Obligations.ReadsReturnTheirField : Prop :=
  ∀ (s : State) (i : Nat) (k : SlotId), s.resolve i = .ok k →
    exec (.rdnet i) s = .next (s.respond .ok (s.slot k).netCount) ∧
    exec (.rdppr i) s = .next (s.respond .ok (s.slot k).calcPPR) ∧
    exec (.rdfwd i) s = .next (s.respond .ok (s.slot k).forwardCount) ∧
    exec (.rdrev i) s = .next (s.respond .ok (s.slot k).reverseCount) ∧
    exec (.rdflt i) s = .next (s.respond .ok (s.slot k).faultCount) ∧
    exec (.inuse i) s =
      .next (s.respond .ok (if (s.slot k).aValid = true ∧ (s.slot k).bValid = true then 1 else 0))

/-- A read whose index does not resolve changes no state and answers the status with `rdata` 0; CFAULT then clears
nothing (spec/43_read.md R170, R172). -/
def Obligations.ReadWithoutASlotAnswersItsStatus : Prop :=
  ∀ (s : State) (i : Nat) (st : Status), s.resolve i = .error st →
    exec (.rdnet i) s = .next (s.respond st 0) ∧ exec (.cfault i) s = .next (s.respond st 0) ∧
    exec (.rdppr i) s = .next (s.respond st 0) ∧ exec (.inuse i) s = .next (s.respond st 0) ∧
    exec (.rdfwd i) s = .next (s.respond st 0) ∧ exec (.rdrev i) s = .next (s.respond st 0) ∧
    exec (.rdflt i) s = .next (s.respond st 0)

/-- The six non-destructive reads change nothing but the response, and executed again give the same response
(spec/20_memory.md R66). -/
def Obligations.NonDestructiveReadsAreIdempotent : Prop :=
  ∀ (s t : State) (n : Nat) (i : Instr), i ∈ [.rdnet n, .rdppr n, .inuse n, .rdfwd n, .rdrev n, .rdflt n] →
    exec i s = .next t → (∃ st v, t = s.respond st v) ∧ exec i t = .next t

/-- A slot that is registered but not in use reads as zero everywhere, in every state that satisfies the invariant
(spec/43_read.md R180). Where CFAULT is split, the value its read step keeps for the response is `false`. -/
def Obligations.SlotNotInUseReadsZero : Prop :=
  ∀ (s : State) (i : Nat) (k : SlotId), s.Inv → s.resolve i = .ok k → (s.slot k).inUse = false →
    exec (.rdnet i) s = .next (s.respond .ok 0) ∧ exec (.rdppr i) s = .next (s.respond .ok 0) ∧
    exec (.inuse i) s = .next (s.respond .ok 0) ∧ exec (.rdfwd i) s = .next (s.respond .ok 0) ∧
    exec (.rdrev i) s = .next (s.respond .ok 0) ∧ exec (.rdflt i) s = .next (s.respond .ok 0) ∧
    (s.params.consumeAtomic = true → exec (.cfault i) s = .next (s.respond .ok 0)) ∧
    (s.params.consumeAtomic = false → exec (.cfault i) s = .next (s.setSplit k ⟨false, true⟩))

/-- CFAULT as one transition: the latch of the resolved slot is returned and cleared, and nothing else changes; when the
index does not resolve nothing is cleared; its command word is `0x5000 + 0x400 * i` (spec/43_read.md R172). -/
def Obligations.AtomicConsumeReturnsAndClearsTheLatch : Prop :=
  (∀ (s : State) (i : Nat) (k : SlotId), s.params.consumeAtomic = true → s.resolve i = .ok k →
    exec (.cfault i) s =
      .next ((s.setSlot k { s.slot k with faultLatch := false }).respond .ok
        (if (s.slot k).faultLatch = true then 1 else 0))) ∧
  (∀ (s : State) (i : Nat) (st : Status), s.resolve i = .error st → exec (.cfault i) s = .next (s.respond st 0)) ∧
  (∀ i : Nat, i < 4 → encode (.cfault i) = .cmd (BitVec.ofNat 16 (0x5000 + 0x400 * i)) 0)

/-- Two CFAULTs in a row return `(true, false)` if a fault came before, else `(false, false)` (spec/43_read.md R173). -/
def Obligations.ConsumeTwiceReportsOnce : Prop :=
  ∀ (s : State) (i : Nat) (k : SlotId), s.params.consumeAtomic = true → s.resolve i = .ok k →
    ∃ t u, exec (.cfault i) s = .next t ∧ exec (.cfault i) t = .next u ∧
      t.response.rdata = (if (s.slot k).faultLatch = true then 1 else 0) ∧ u.response.rdata = 0 ∧
      (u.slot k).faultCount = (s.slot k).faultCount

/-- With `CONSUME_ATOMIC = true` a recorded fault is returned by the next CFAULT of its slot, whatever PULSE and INDEX
operations come in between (spec/20_memory.md R74, spec/10_state.md R25). -/
def Obligations.AtomicConsumeLosesNoFault : Prop :=
  ∀ (s : State) (j : SlotId) (i : Nat) (ph : Phase) (ops : List Instr),
    s.params.consumeAtomic = true → s.bound j = true → s.resolve i = .ok j →
    decodePair (s.slot j).lastPhase ph = .fault → (∀ o ∈ ops, isInterruptOperation o) →
    ∃ t, execAll (.pulse j.val ph :: ops ++ [.cfault i]) s = .next t ∧ t.response = ⟨.ok, 1⟩ ∧
      (t.slot j).faultLatch = false

/-- CFAULT as two transitions: the first copies the latch and marks the slot busy, with no response; the second,
enabled while the slot is busy, clears the latch and the mark and returns the copy (spec/43_read.md R174). -/
def Obligations.SplitConsumeReadsThenClears : Prop :=
  (∀ (s : State) (i : Nat) (k : SlotId), s.params.consumeAtomic = false → s.resolve i = .ok k →
    exec (.cfault i) s = .next (s.setSplit k ⟨(s.slot k).faultLatch, true⟩)) ∧
  (∀ (s : State) (k : SlotId) (rest : List Input), s.inputs = .clear k :: rest → (s.split.get k).busy = true →
    step s = .next ((((s.setInputs rest).setSlot k { s.slot k with faultLatch := false }).setSplit k
      ⟨(s.split.get k).tmp, false⟩).respond .ok (if (s.split.get k).tmp = true then 1 else 0)))

/-- While a CFAULT is split, the next host operation waits: the step is the clear transition and the operation stays
scheduled. The model's choice of how R174's "no other poll-context operation" is kept, log entry 7. -/
def Obligations.HostOperationWaitsForTheClearStep : Prop :=
  ∀ (s : State) (k : SlotId) (r : Request) (i : Instr) (rest : List Input),
    s.inputs = .request r :: rest → decode r = .ok i → (i.context = .setup ∨ i.context = .poll) →
    s.busySlot = some k →
    step s = .next (((s.setSlot k { s.slot k with faultLatch := false }).setSplit k
      ⟨(s.split.get k).tmp, false⟩).respond .ok (if (s.split.get k).tmp = true then 1 else 0))

/-- The lost report: a Fault between the two transitions of a CFAULT is cleared unseen and still counted
(spec/70_reset_and_hazards.md R260, spec/95_test_vectors.md V8). -/
def Obligations.SplitConsumeCanLoseAReport : Prop :=
  ∀ (s : State) (i : Nat) (k : SlotId) (ph : Phase) (rest : List Input),
    s.params.consumeAtomic = false → s.busySlot = none → i < 4 → s.resolve i = .ok k → s.bound k = true →
    decodePair (s.slot k).lastPhase ph = .fault →
    s.inputs = .request (encode (.cfault i)) :: .request (encode (.pulse k.val ph)) :: .clear k :: rest →
    ∃ t, Sys2Proof.core.run 3 s = .next t ∧ t.inputs = rest ∧
      t.response = ⟨.ok, if (s.slot k).faultLatch = true then 1 else 0⟩ ∧ (t.slot k).faultLatch = false ∧
      (t.slot k).faultCount = (s.slot k).faultCount + 1

/-! ### REGISTER -/

/-- REGISTER with a free slot: the slot `count` is assigned and constructed with zeros, the operands and the initial
phase (0 when a required pin is invalid; the operand `ph0` under `IRQ_MODEL = free`), its callbacks are bound when both
required pins are valid, and the response is its index with `OK`, or with `CONFIG_PINS`; no other slot changes
(spec/44_registry.md R193; spec/40_construct.md R131). For a REGISTER that follows a PULSE or INDEX, running this rule
is the model's choice (log entry 5). -/
def Obligations.RegisterAssignsAndConstructsTheNextSlot : Prop :=
  ∀ (s : State) (k : SlotId) (ppr : Word) (av bv zp : Bool) (ph0 : Phase), k.val = s.count.val →
    ∃ (t : State) (ph : Phase), exec (.register ppr av bv zp ph0) s = .next t ∧ t.count.val = s.count.val + 1 ∧
      (s.params.irqModel = .free → ph = ph0) ∧
      t.slot k =
        { lastPhase := if av = true ∧ bv = true then ph else 0
          netCount := 0, forwardCount := 0, reverseCount := 0, faultCount := 0, faultLatch := false
          firstIndexSeen := false, netCountAtLastIndex := 0, calcPPR := 0
          cfgPPR := ppr, aValid := av, bValid := bv, zPresent := zp } ∧
      (t.bound k = true ↔ av = true ∧ bv = true) ∧ (t.zBound k = true ↔ av = true ∧ bv = true ∧ zp = true) ∧
      t.response = ⟨if av = true ∧ bv = true then .ok else .configPins, BitVec.ofNat 32 k.val⟩ ∧
      (∀ j, j ≠ k → t.slot j = s.slot j) ∧
      ((∀ j c, (s.pending.get j).get c = false) → ∀ j c, (t.pending.get j).get c = false) ∧
      t.pins = s.pins ∧ t.split = s.split ∧ t.params = s.params ∧ t.inputs = s.inputs

/-- REGISTER with a free slot, `IRQ_MODEL = edge_pending`: as under `free`, but the initial phase is that of the slot's
pins, and every pending bit is false afterwards. The readings of spec/60_exceptions.md R221 and R222 are the model's, log
entries 6 and 10. -/
def Obligations.RegisterUnderEdgePendingSamplesThePins : Prop :=
  ∀ (s : State) (k : SlotId) (ppr : Word) (av bv zp : Bool) (ph0 : Phase), s.params.irqModel = .edgePending →
    k.val = s.count.val →
    ∃ t, exec (.register ppr av bv zp ph0) s = .next t ∧ t.count.val = s.count.val + 1 ∧
      t.slot k =
        { lastPhase := if av = true ∧ bv = true
            then BitVec.ofBool (s.pins.get k).b ++ BitVec.ofBool (s.pins.get k).a else 0
          netCount := 0, forwardCount := 0, reverseCount := 0, faultCount := 0, faultLatch := false
          firstIndexSeen := false, netCountAtLastIndex := 0, calcPPR := 0
          cfgPPR := ppr, aValid := av, bValid := bv, zPresent := zp } ∧
      t.response = ⟨if av = true ∧ bv = true then .ok else .configPins, BitVec.ofNat 32 k.val⟩ ∧
      (∀ j, j ≠ k → t.slot j = s.slot j) ∧ (∀ j c, (t.pending.get j).get c = false) ∧
      t.pins = s.pins ∧ t.split = s.split ∧ t.params = s.params ∧ t.inputs = s.inputs

/-- REGISTER on a full registry changes nothing, ignores its operands, valid pins or not, and answers
`(CONFIG_CAPACITY, 0)` (spec/44_registry.md R192). -/
def Obligations.RegisterOnAFullRegistryChangesNothing : Prop :=
  ∀ (s : State) (ppr : Word) (av bv zp : Bool) (ph0 : Phase), s.count = 3 →
    exec (.register ppr av bv zp ph0) s = .next (s.respond .configCapacity 0)

/-! ### Steps, edges and dispatch -/

/-- A step whose next action is a request that decodes to `i` executes `i` on the state with that action taken, unless
the host's operation has to wait for the clear step of a split CFAULT; `withFetchWord` presents exactly the
instruction it is given (spec/20_memory.md R70); and with nothing scheduled the step is NOP (the model's choice, log
entry 13). -/
def Obligations.StepRunsTheDecodedOperation : Prop :=
  (∀ (s : State) (r : Request) (i : Instr) (rest : List Input), s.inputs = .request r :: rest → decode r = .ok i →
    (s.busySlot = none ∨ (i.context ≠ .setup ∧ i.context ≠ .poll)) → step s = exec i (s.setInputs rest)) ∧
  (∀ (s : State) (nbits w : Nat) (i : Instr), decode (requestOfBits nbits w) = .ok i → s.busySlot = none →
    step (s.withFetchWord nbits w) = exec i s) ∧
  (∀ s : State, s.inputs = [] → step s = exec .nop s)

/-- One change of a pin level under `edge_pending`: the level is inverted, and the source becomes pending on any change
of A or B of a bound slot and on a falling edge of Z of a slot with an index callback; a rising edge of Z requests
nothing (spec/60_exceptions.md R215 to R217, R221). -/
def Obligations.PinChangeRequestsItsCallback : Prop :=
  ∀ (s : State) (k : SlotId) (c : Channel) (rest : List Input), s.params.irqModel = .edgePending →
    s.inputs = .edge k c :: rest →
    ∃ t, step s = .next t ∧ t.inputs = rest ∧
      (t.pins.get k).get c = !(s.pins.get k).get c ∧
      (∀ j c', (j, c') ≠ (k, c) → (t.pins.get j).get c' = (s.pins.get j).get c' ∧
        (t.pending.get j).get c' = (s.pending.get j).get c') ∧
      (c ≠ .z → (t.pending.get k).get c = ((s.pending.get k).get c || s.bound k)) ∧
      (c = .z → (t.pending.get k).z = ((s.pending.get k).z || (s.zBound k && (s.pins.get k).z))) ∧
      t.slots = s.slots ∧ t.count = s.count ∧ t.split = s.split ∧ t.response = s.response ∧ t.params = s.params

/-- Dispatch of a pending source clears its bit and executes PULSE with the levels as they are, or INDEX
(spec/60_exceptions.md R223). -/
def Obligations.DispatchRunsThePendingCallback : Prop :=
  ∀ (s : State) (k : SlotId) (rest : List Input),
    (s.inputs = .dispatch k .a :: rest → (s.pending.get k).a = true →
      step s = exec (.pulse k.val (BitVec.ofBool (s.pins.get k).b ++ BitVec.ofBool (s.pins.get k).a))
        ((s.setInputs rest).setPending k { s.pending.get k with a := false })) ∧
    (s.inputs = .dispatch k .b :: rest → (s.pending.get k).b = true →
      step s = exec (.pulse k.val (BitVec.ofBool (s.pins.get k).b ++ BitVec.ofBool (s.pins.get k).a))
        ((s.setInputs rest).setPending k { s.pending.get k with b := false })) ∧
    (s.inputs = .dispatch k .z :: rest → (s.pending.get k).z = true →
      step s = exec (.index k.val) ((s.setInputs rest).setPending k { s.pending.get k with z := false }))

/-- Consequences of one pending bit per source, for a bound slot whose last phase shows its levels and with no source
pending: (a) one edge then its dispatch counts one step; (b) an edge of each channel before any dispatch records one
Fault and no count, in either order of dispatch; (c) two edges of one channel count nothing; (d) a full cycle before any
dispatch counts nothing and records no Fault (spec/60_exceptions.md R224, which the spec marks as derived). -/
def Obligations.MergedEdgesLoseCounts : Prop :=
  ∀ (s : State) (k : SlotId) (c : Channel), s.params.irqModel = .edgePending → s.bound k = true →
    s.pending.get k = ⟨false, false, false⟩ →
    (s.slot k).lastPhase = BitVec.ofBool (s.pins.get k).b ++ BitVec.ofBool (s.pins.get k).a →
    (c ≠ .z → s.inputs = [.edge k c, .dispatch k c] →
      ∃ t, Sys2Proof.core.run 2 s = .next t ∧ (t.slot k).faultCount = (s.slot k).faultCount ∧
        ((t.slot k).netCount = (s.slot k).netCount + 1 ∧ (t.slot k).forwardCount = (s.slot k).forwardCount + 1 ∨
          (t.slot k).netCount = (s.slot k).netCount - 1 ∧ (t.slot k).reverseCount = (s.slot k).reverseCount + 1)) ∧
    (s.inputs = [.edge k .a, .edge k .b, .dispatch k .a, .dispatch k .b] ∨
        s.inputs = [.edge k .a, .edge k .b, .dispatch k .b, .dispatch k .a] →
      ∃ t, Sys2Proof.core.run 4 s = .next t ∧ (t.slot k).faultCount = (s.slot k).faultCount + 1 ∧
        (t.slot k).netCount = (s.slot k).netCount ∧ (t.slot k).forwardCount = (s.slot k).forwardCount ∧
        (t.slot k).reverseCount = (s.slot k).reverseCount) ∧
    (s.inputs = [.edge k .a, .edge k .a, .dispatch k .a] →
      ∃ t, Sys2Proof.core.run 3 s = .next t ∧ t.slot k = s.slot k) ∧
    (s.inputs = [.edge k .a, .edge k .b, .edge k .a, .edge k .b, .dispatch k .a, .dispatch k .b] →
      ∃ t, Sys2Proof.core.run 6 s = .next t ∧ t.slot k = s.slot k)

/-! ### What every operation and every step keeps -/

/-- Every step keeps the invariant, from any state that satisfies it (spec/10_state.md R40, R43, R44, which the spec marks
as derived; the clauses on pending bits and on split CFAULTs are the model's, from spec/60_exceptions.md R221 and
spec/43_read.md R174). -/
def Obligations.StepKeepsTheInvariant : Prop :=
  ∀ s t : State, s.Inv → step s = .next t → t.Inv

/-- Every run of every schedule from power-on reset goes on for any number of steps and ends in a state that satisfies
the invariant, for every value of the parameters. -/
def Obligations.EveryScheduleFromResetKeepsTheInvariant : Prop :=
  ∀ (p : Params) (schedule : List Input) (n : Nat),
    ∃ t, Sys2Proof.core.run n ((State.resetWith p).setInputs schedule) = .next t ∧ t.Inv

/-- The net count is the forward count less the reverse count modulo 2^32: after reset, and after every step from a
state in which it is; where the exact difference fits the signed range it is the net count exactly (spec/10_state.md
R40, which the spec marks as derived). -/
def Obligations.NetCountIsForwardLessReverse : Prop :=
  (∀ p : Params, (State.resetWith p).NetCountConsistent) ∧
  (∀ s t : State, s.NetCountConsistent → step s = .next t → t.NetCountConsistent) ∧
  (∀ (s : State) (k : SlotId), s.NetCountConsistent →
    -(2 ^ 31) ≤ ((s.slot k).forwardCount.toNat : Int) - (s.slot k).reverseCount.toNat →
    ((s.slot k).forwardCount.toNat : Int) - (s.slot k).reverseCount.toNat < 2 ^ 31 →
    (s.slot k).netCount.toInt = ((s.slot k).forwardCount.toNat : Int) - (s.slot k).reverseCount.toNat)

/-- The slot count never exceeds the capacity and no step decreases it; a step that changes it adds one
(spec/10_state.md R30, R42). -/
def Obligations.CountNeverDecreases : Prop :=
  ∀ s t : State, step s = .next t →
    s.count.val ≤ 3 ∧ s.count.val ≤ t.count.val ∧ (t.count ≠ s.count → t.count.val = s.count.val + 1)

/-- The configuration of a registered slot is never written again (spec/10_state.md R28, R29). -/
def Obligations.ConfigurationIsImmutableOnceRegistered : Prop :=
  ∀ (s t : State) (k : SlotId), k.val < s.count.val → step s = .next t →
    (t.slot k).cfgPPR = (s.slot k).cfgPPR ∧ (t.slot k).aValid = (s.slot k).aValid ∧
    (t.slot k).bValid = (s.slot k).bValid ∧ (t.slot k).zPresent = (s.slot k).zPresent ∧ t.params = s.params

/-- Once a registered slot has seen an index pulse no step forgets it (spec/10_state.md R26). -/
def Obligations.FirstIndexSeenIsNeverCleared : Prop :=
  ∀ (s t : State) (k : SlotId), k.val < s.count.val → step s = .next t →
    (s.slot k).firstIndexSeen = true → (t.slot k).firstIndexSeen = true

/-- The fault latch of a registered slot is cleared by no operation but a CFAULT that resolves to the slot, and set by
no operation but one of the interrupt context, which then also counts the fault (spec/10_state.md R25, R31). -/
def Obligations.FaultLatchChangesOnlyByPulseAndConsume : Prop :=
  ∀ (i : Instr) (s t : State) (k : SlotId), k.val < s.count.val → exec i s = .next t →
    ((s.slot k).faultLatch = true → (t.slot k).faultLatch = false →
      s.params.consumeAtomic = true ∧ ∃ n, i = .cfault n ∧ s.resolve n = .ok k) ∧
    ((s.slot k).faultLatch = false → (t.slot k).faultLatch = true →
      i.context = .interrupt ∧ (t.slot k).faultCount = (s.slot k).faultCount + 1)

/-- A counter of a registered slot changes only by one, and only by an operation of the interrupt context
(spec/10_state.md R23, R31). -/
def Obligations.CountersChangeOnlyByInterruptOperations : Prop :=
  ∀ (i : Instr) (s t : State) (k : SlotId), k.val < s.count.val → exec i s = .next t →
    let changed := fun (f : Decoder → Word) => f (t.slot k) ≠ f (s.slot k)
    (changed (·.forwardCount) → i.context = .interrupt ∧
      (t.slot k).forwardCount = (s.slot k).forwardCount + 1 ∧ (t.slot k).netCount = (s.slot k).netCount + 1) ∧
    (changed (·.reverseCount) → i.context = .interrupt ∧
      (t.slot k).reverseCount = (s.slot k).reverseCount + 1 ∧ (t.slot k).netCount = (s.slot k).netCount - 1) ∧
    (changed (·.faultCount) → i.context = .interrupt ∧ (t.slot k).faultCount = (s.slot k).faultCount + 1) ∧
    (changed (·.netCount) → changed (·.forwardCount) ∨ changed (·.reverseCount)) ∧
    (changed (·.calcPPR) → ∃ n, i = .index n)

/-- An operation writes no slot but the one its own rule gives it, and never the parameters, the pins or the schedule
(spec/10_state.md R36). -/
def Obligations.OperationWritesOnlyItsOwnSlot : Prop :=
  ∀ (i : Instr) (s t : State), exec i s = .next t →
    (∀ j, targetSlot i s ≠ some j → t.slot j = s.slot j ∧ t.split.get j = s.split.get j) ∧
    t.params = s.params ∧ t.pins = s.pins ∧ t.inputs = s.inputs

/-- What an operation does to its own slot, to the slot count and to the response depends on no other slot
(spec/10_state.md R36). -/
def Obligations.OperationReadsOnlyItsOwnSlot : Prop :=
  ∀ (i : Instr) (s u t : State), s.count = u.count → s.params = u.params → s.pins = u.pins → s.split = u.split →
    s.response = u.response → (∀ j, targetSlot i s = some j → s.slot j = u.slot j) → exec i s = .next t →
    ∃ v, exec i u = .next v ∧ (∀ j, targetSlot i s = some j → v.slot j = t.slot j) ∧
      v.count = t.count ∧ v.split = t.split ∧ v.response = t.response

/-- Two operations that concern different slots, neither of them REGISTER, lead to the same state in either order but
for the response of the last, and with `CONSUME_ATOMIC = true` each gets the same response in either order
(spec/20_memory.md R71). -/
def Obligations.OperationsOnDifferentSlotsCommute : Prop :=
  ∀ (i1 i2 : Instr) (s : State) (k1 k2 : SlotId), i1.context ≠ .setup → i2.context ≠ .setup →
    targetSlot i1 s = some k1 → targetSlot i2 s = some k2 → k1 ≠ k2 →
    ∃ t1 t2 t12 t21, exec i1 s = .next t1 ∧ exec i2 t1 = .next t12 ∧ exec i2 s = .next t2 ∧ exec i1 t2 = .next t21 ∧
      t12.respond .ok 0 = t21.respond .ok 0 ∧
      (s.params.consumeAtomic = true → t12.response = t2.response ∧ t21.response = t1.response)

/-- No operation halts the block: every step answers a next state, and every scheduled action is taken within two
steps, the first of which may be the clear step of a split CFAULT (spec/60_exceptions.md R214). -/
def Obligations.EveryScheduledActionIsTakenWithinTwoSteps : Prop :=
  (∀ s : State, ∃ t, step s = .next t) ∧
  (∀ (s : State) (e : Input) (rest : List Input), s.SplitJustified → s.inputs = e :: rest →
    ∃ t, step s = .next t ∧ (t.inputs = rest ∨ (t.inputs = e :: rest ∧ ∃ u, step t = .next u ∧ u.inputs = rest)))
end

