-- ==== Sys2Proof/Tests/Slice0.lean ====
section
/-! SUPPORT. The model's own tests. Expected values come from spec/95_test_vectors.md (V1 to V9, P1 to P4) and the worked
examples of the rules; every test is one step. After them, for each obligation with hypotheses, a concrete state and
operands that meet them. -/

namespace Sys2Proof.Tests

open Sys2Proof.Machine

/-! ### Helpers -/

/-- The state an instruction leads to; the state itself if it does not complete. -/
def after (i : Instr) (s : State) : State :=
  match exec i s with
  | .next t => t
  | .fault _ => s
  | .refused _ => s

/-- The state that the next step leads to with an instruction of the opcode table presented. -/
def stepWord (nbits w : Nat) (s : State) : State :=
  match step (s.withFetchWord nbits w) with
  | .next t => t
  | .fault _ => s
  | .refused _ => s

/-- The response as the two numbers of the port. -/
def answer (s : State) : Nat × Nat := (s.response.status.code.toNat, s.response.rdata.toNat)

/-- A state with given parameters, slot count and slots. -/
def bank (p : Params) (count : Fin 4) (d0 d1 d2 : Decoder) : State :=
  { State.resetWith p with count := count, slots := ⟨d0, d1, d2⟩ }

/-- The parameters with `OOR_POLICY = fault`. -/
def faulting : Params := { Params.default with oorPolicy := .fault }
/-- The parameters with `CONSUME_ATOMIC = false`. -/
def splitting : Params := { Params.default with consumeAtomic := false }
/-- The parameters with `IRQ_MODEL = edge_pending`. -/
def pinned : Params := { Params.default with irqModel := .edgePending }

/-- V1's decoder before each row, with last phase `p`. -/
def v1 (p : Phase) : Decoder :=
  { constructed 600 true true true p with netCount := 10, forwardCount := 25, reverseCount := 15, faultCount := 2 }

/-- V7 (b): slot 0 counts 7; slot 1 has no Z pin, counts -1 and has three faults; slot 2 is not in use. -/
def v7 (p : Params) (count : Fin 4) : State :=
  bank p count { constructed 600 true true true 0 with netCount := 7 }
    { constructed 1024 true true false 3 with netCount := 0xFFFFFFFF, faultLatch := true, faultCount := 3 }
    (constructed 360 true false false 0)

/-- Slot 0 bound with a Z pin and an index pulse seen at `last`, its net count now `net` (V5). -/
def v5 (net last : Word) : State :=
  bank Params.default 1 { constructed 600 true true true 0 with
    netCount := net, firstIndexSeen := true, netCountAtLastIndex := last } Decoder.zero Decoder.zero

/-! ### Well-formedness: the one check, `slotFits`, refuses 4 in every operation that carries a slot -/

theorem test_wellFormed_refuses_slot_four :
    ([.pulse 4 0, .index 4, .rdnet 4, .cfault 4, .rdppr 4, .inuse 4, .rdfwd 4, .rdrev 4, .rdflt 4,
      .trans00 4, .trans01 4, .trans02 4, .trans03 4, .trans10 4, .trans11 4, .trans12 4, .trans13 4,
      .trans20 4, .trans21 4, .trans22 4, .trans23 4, .trans30 4, .trans31 4, .trans32 4, .trans33 4] :
      List Instr).all (fun i => !WellFormed i) = true := by decide

theorem test_wellFormed_accepts_slot_three :
    (WellFormed (.pulse 3 3) && WellFormed (.rdflt 3) && WellFormed (.trans33 3)) = true := by decide

/-! ### Decoding, word by word from R111 to R113 and the vectors -/

theorem test_decode_nop : decodeTableWord 16 0b0000000000000000 = some .nop := by decide
-- 0x10E0 and 0x1360: R199; bits OP=0001 SLOT=00 PH ZP BV AV RSV=00000, wdata above them
theorem test_decode_register :
    decodeTableWord 16 0b0001001101100000 = some (.register 0 true true false 3) ∧
      decodeTableWord 48 (600 * 65536 + 0x10E0) = some (.register 600 true true true 0) := by decide
theorem test_decode_register_pins :
    decodeTableWord 16 0b0001000000100000 = some (.register 0 true false false 0) ∧
      decodeTableWord 16 0b0001001001000000 = some (.register 0 false true false 2) := by decide
theorem test_decode_pulse : decodeTableWord 16 0b0010011000000000 = some (.pulse 1 2) := by decide
theorem test_decode_index : decodeTableWord 16 0b0011100000000000 = some (.index 2) := by decide
theorem test_decode_reads :
    decodeTableWord 16 0b0100110000000000 = some (.rdnet 3) ∧ decodeTableWord 16 0b0101010000000000 = some (.cfault 1) ∧
      decodeTableWord 16 0b0110010000000000 = some (.rdppr 1) ∧ decodeTableWord 16 0b0111100000000000 = some (.inuse 2) ∧
      decodeTableWord 16 0b1000100000000000 = some (.rdfwd 2) ∧ decodeTableWord 16 0b1001010000000000 = some (.rdrev 1) ∧
      decodeTableWord 16 0b1010000000000000 = some (.rdflt 0) := by decide
theorem test_decode_transitions :
    (List.range 16).map (decodeTableWord 8) =
      [ .trans00 0, .trans01 0, .trans02 0, .trans03 0, .trans10 0, .trans11 0, .trans12 0, .trans13 0,
        .trans20 0, .trans21 0, .trans22 0, .trans23 0, .trans30 0, .trans31 0, .trans32 0, .trans33 0 ].map some := by
  decide
-- V9's illegal words
theorem test_decode_illegal :
    ([0x0001, 0x0400, 0x1400, 0x10E1, 0x2120, 0x2180, 0x3100, 0x4020, 0x5001, 0xA300, 0xB000, 0xC000, 0xD000, 0xE000,
      0xF000, 0xFFFF] : List Nat).all (fun w => (decodeTableWord 16 w).isNone) = true := by decide
theorem test_encode_words :
    encode (.register 1024 true true false 3) = .cmd 0x1360 1024 ∧ encode (.pulse 1 2) = .cmd 0x2600 0 ∧
      encode (.index 2) = .cmd 0x3800 0 ∧ encode (.rdflt 1) = .cmd 0xA400 0 ∧ encode (.trans32 2) = .trans 14 2 := by
  decide

/-! ### One step of each instruction -/

-- V9, row 0x0000
theorem test_nop : answer (stepWord 16 0x0000 (v7 .default 3)) = (0, 0) := by decide
-- an empty schedule is idle
theorem test_idle : (match step State.reset with | .next t => t == State.reset | _ => false) = true := by decide
-- V6, rows 1, 2 and 4
theorem test_register :
    answer (stepWord 48 (600 * 65536 + 0x10E0) State.reset) = (0, 0) ∧
      (stepWord 48 (600 * 65536 + 0x10E0) State.reset).slot 0 = constructed 600 true true true 0 ∧
      answer (stepWord 16 0x1020 (v7 .default 2)) = (2, 2) := by decide
theorem test_register_full :
    answer (stepWord 16 0x10E0 (v7 .default 3)) = (1, 0) ∧ (stepWord 16 0x1000 (v7 .default 3)).slot 0 = (v7 .default 3).slot 0 := by
  decide
-- V1, all sixteen rows: net, forward, reverse, fault, latch
def v1Row (prev new : Phase) : Phase × Int × Nat × Nat × Nat × Bool :=
  let d := (after (.pulse 0 new) (bank .default 1 (v1 prev) Decoder.zero Decoder.zero)).slot 0
  (d.lastPhase, d.netCount.toInt, d.forwardCount.toNat, d.reverseCount.toNat, d.faultCount.toNat, d.faultLatch)
theorem test_pulse_v1_rows :
    ([(0, 0), (0, 1), (0, 2), (0, 3), (1, 0), (1, 1), (1, 2), (1, 3), (2, 0), (2, 1), (2, 2), (2, 3), (3, 0), (3, 1), (3, 2), (3, 3)] :
      List (Phase × Phase)).map (fun p => v1Row p.1 p.2) =
      [ (0, 10, 25, 15, 2, false), (1, 11, 26, 15, 2, false), (2, 9, 25, 16, 2, false),
        (3, 10, 25, 15, 3, true), (0, 9, 25, 16, 2, false), (1, 10, 25, 15, 2, false),
        (2, 10, 25, 15, 3, true), (3, 11, 26, 15, 2, false), (0, 11, 26, 15, 2, false),
        (1, 10, 25, 15, 3, true), (2, 10, 25, 15, 2, false), (3, 9, 25, 16, 2, false),
        (0, 10, 25, 15, 3, true), (1, 9, 25, 16, 2, false), (2, 11, 26, 15, 2, false),
        (3, 10, 25, 15, 2, false) ] := by decide
-- V3, netCount wraps downward; V4, slots 2 and 3
theorem test_pulse_wrap_and_gate :
    ((after (.pulse 0 2) (bank .default 1 { constructed 600 true true true 0 with
        netCount := 0x80000000, reverseCount := 0x80000000 } Decoder.zero Decoder.zero)).slot 0).netCount = 0x7FFFFFFF ∧
      answer (stepWord 16 0x2900 (v7 .default 3)) = (5, 0) ∧ answer (stepWord 16 0x2D00 (v7 .default 3)) = (5, 0) := by
  decide
-- V5, rows 605/5, 7/605 and the two corners
theorem test_index_magnitudes :
    ((after (.index 0) (v5 605 5)).slot 0).calcPPR = 600 ∧ ((after (.index 0) (v5 7 605)).slot 0).calcPPR = 598 ∧
      ((after (.index 0) (v5 0xFFFFFFFF 0x7FFFFFFF)).slot 0).calcPPR = 0x80000000 ∧
      ((after (.index 0) (v5 0x7FFFFFFF 0x80000000)).slot 0).calcPPR = 1 ∧
      ((after (.index 0) (v5 605 5)).slot 0).netCountAtLastIndex = 605 := by decide
-- V4: no Z pin on slot 1, and slot 0's first index pulse
theorem test_index_first_and_gate :
    answer (stepWord 16 0x3400 (v7 .default 3)) = (5, 0) ∧ ((after (.index 0) (v7 .default 3)).slot 0).calcPPR = 0 ∧
      ((after (.index 0) (v7 .default 3)).slot 0).netCountAtLastIndex = 7 := by decide
-- V7 (b), (c): both policies, and the empty registry of V7 (a)
theorem test_rdnet :
    answer (stepWord 16 0x4C00 (v7 .default 3)) = (0, 7) ∧ answer (stepWord 16 0x4C00 (v7 .default 2)) = (0, 0xFFFFFFFF) := by
  decide
theorem test_rdnet_stops :
    answer (stepWord 16 0x4C00 (v7 faulting 3)) = (3, 0) ∧ answer (stepWord 16 0x4000 State.reset) = (4, 0) := by decide
-- V7 (b), (c), CFAULT rows
theorem test_cfault :
    answer (stepWord 16 0x5C00 (v7 .default 2)) = (0, 1) ∧ ((stepWord 16 0x5C00 (v7 .default 2)).slot 1).faultLatch = false ∧
      ((stepWord 16 0x5C00 (v7 .default 2)).slot 1).faultCount = 3 := by decide
theorem test_cfault_stops :
    answer (stepWord 16 0x5C00 (v7 faulting 2)) = (3, 0) ∧ ((stepWord 16 0x5C00 (v7 faulting 2)).slot 1).faultLatch = true := by
  decide
-- V7 (b), the other reads; R168 for RDPPR
theorem test_rdppr : answer (after (.rdppr 0) (after (.index 0) (v5 605 5))) = (0, 600) := by decide
theorem test_inuse : answer (stepWord 16 0x7800 (v7 .default 3)) = (0, 0) ∧ answer (stepWord 16 0x7C00 (v7 .default 3)) = (0, 1) := by
  decide
theorem test_rdfwd : answer (after (.rdfwd 0) (bank .default 1 (v1 0) Decoder.zero Decoder.zero)) = (0, 25) := by decide
theorem test_rdrev : answer (after (.rdrev 0) (bank .default 1 (v1 0) Decoder.zero Decoder.zero)) = (0, 15) := by decide
theorem test_rdflt : answer (stepWord 16 0xA400 (v7 .default 3)) = (0, 3) := by decide
-- the rows of V1 again, through the sixteen transitions
def transRow (prev new : Phase) : Int × Nat × Nat × Nat × Bool :=
  let d := (stepWord 8 (4 * prev.toNat + new.toNat) (bank .default 1 (v1 prev) Decoder.zero Decoder.zero)).slot 0
  (d.netCount.toInt, d.forwardCount.toNat, d.reverseCount.toNat, d.faultCount.toNat, d.faultLatch)
theorem test_transitions_from_0_and_1 :
    ([(0, 0), (0, 1), (0, 2), (0, 3), (1, 0), (1, 1), (1, 2), (1, 3)] :
      List (Phase × Phase)).map (fun p => transRow p.1 p.2) =
      [ (10, 25, 15, 2, false), (11, 26, 15, 2, false), (9, 25, 16, 2, false),
        (10, 25, 15, 3, true), (9, 25, 16, 2, false), (10, 25, 15, 2, false),
        (10, 25, 15, 3, true), (11, 26, 15, 2, false) ] := by decide
theorem test_transitions_from_2_and_3 :
    ([(2, 0), (2, 1), (2, 2), (2, 3), (3, 0), (3, 1), (3, 2), (3, 3)] :
      List (Phase × Phase)).map (fun p => transRow p.1 p.2) =
      [ (11, 26, 15, 2, false), (10, 25, 15, 3, true), (10, 25, 15, 2, false),
        (9, 25, 16, 2, false), (10, 25, 15, 3, true), (9, 25, 16, 2, false),
        (11, 26, 15, 2, false), (10, 25, 15, 2, false) ] := by decide
-- V9: an illegal word, and it wins over EMPTY
theorem test_illegal_word :
    answer (stepWord 16 0x2180 (v7 .default 3)) = (6, 0) ∧ answer (stepWord 16 0x5001 State.reset) = (6, 0) := by decide
-- V10's first two lines: an edge of A makes its source pending, and only where the slot is bound
def edgeA (s : State) : State :=
  match step (s.setInputs [.edge 0 .a]) with
  | .next t => t
  | .fault _ => s
  | .refused _ => s
theorem test_edge :
    (edgeA (v7 pinned 3)).pending.d0 = ⟨true, false, false⟩ ∧ (edgeA (v7 pinned 3)).pins.d0 = ⟨true, false, false⟩ ∧
      (edgeA (v7 pinned 0)).pending.d0 = ⟨false, false, false⟩ ∧ (edgeA (v7 .default 3)).pins.d0 = ⟨false, false, false⟩ := by
  decide
-- R221: under edge_pending the initial phase is that of the pins (V10's start has them at 0)
theorem test_register_samples_pins :
    ((after (.register 8 true true true 0) { State.resetWith pinned with
        pins := ⟨⟨true, false, true⟩, Lines.zero, Lines.zero⟩ }).slot 0).lastPhase = 1 := by decide

/-! ### Witnesses: a state and operands that meet each obligation's hypotheses -/

/-- A concrete state that satisfies the invariant: one slot bound, one registered and not in use. -/
def inUseAndNot (inputs : List Input) : State :=
  (bank .default 2 { constructed 600 true true true 0 with netCount := 1, forwardCount := 1 }
    (constructed 360 true false false 0) Decoder.zero).setInputs inputs

theorem inUseAndNot_idle_inv : (inUseAndNot []).Inv := by
  constructor
  · unfold State.NetCountConsistent; decide
  · unfold State.UnboundUntouched Decoder.AtConstruction; decide
  · unfold State.IndexConsistent; decide
  · unfold State.IndexNeedsCallback; decide
  · unfold State.UnassignedZero; decide
  · intro k c h
    have : ((inUseAndNot []).pending.get k).get c = false := by cases c <;> revert k <;> decide
    exact absurd (this.symm.trans h) (by decide)
  · unfold State.SplitJustified; decide

theorem inUseAndNot_inv (inputs : List Input) : (inUseAndNot inputs).Inv :=
  have h := inUseAndNot_idle_inv
  ⟨h.netCount, h.unbound, h.index, h.callback, h.unassigned, h.pending, h.split⟩

/-- Slot 0 bound at phase 0 with its counters at their limits. -/
def limits (p : Params) : State :=
  bank p 3 { constructed 1 true true true 0 with
    netCount := 0x7FFFFFFF, forwardCount := 0xFFFFFFFF, reverseCount := 0xFFFFFFFF, faultCount := 0xFFFFFFFF }
    (constructed 1 true true true 3) (constructed 1 false true true 0)

theorem witness_DecodeOfEncodeGivesTheOperation : WellFormed (.pulse 3 3) = true ∧ WellFormed (.trans30 3) = true := by decide
theorem witness_EncodeOfDecodeGivesTheRequest : decode (.cmd 0x2F00 9) = .ok (.pulse 3 3) := rfl
theorem witness_CommandWordIsLegalIffOneRowMatches :
    ((v7 .default 3).setInputs [.request (.cmd 0xB000 0)]).inputs = .request (.cmd 0xB000 0) :: [] ∧
      ∀ row ∈ cmdRows, 0xB000#16 &&& row.mask ≠ row.pattern := by decide
theorem witness_PulseAppliesTheTableOrAnswersUnbound :
    ((v7 .default 2).count.val ≤ 2 ∧ (v7 .default 3).count.val ≤ 3 ∧ ((v7 .default 3).slot 2).inUse = false) ∧
      (2 : SlotId).val = 2 ∧ (bank .default 3 Decoder.zero Decoder.zero (v1 3)).bound 2 = true := by decide
theorem witness_ForwardPairCountsUp : (limits .default).bound 0 = true ∧
    (((limits .default).slot 0).lastPhase, (1 : Phase)) ∈ ([(0, 1), (1, 3), (3, 2), (2, 0)] : List (Phase × Phase)) := by decide
theorem witness_ReversePairCountsDown : (limits .default).bound 0 = true ∧
    (((limits .default).slot 0).lastPhase, (2 : Phase)) ∈ ([(1, 0), (3, 1), (2, 3), (0, 2)] : List (Phase × Phase)) := by decide
theorem witness_UnchangedPhaseChangesNothing : (limits .default).bound 1 = true := by decide
theorem witness_DiagonalPairRecordsAFault : (limits .default).bound 0 = true ∧
    (((limits .default).slot 0).lastPhase, (3 : Phase)) ∈ ([(0, 3), (3, 0), (1, 2), (2, 1)] : List (Phase × Phase)) := by decide
theorem witness_transition_rows : ∀ p : Phase,
    (bank .default 3 Decoder.zero Decoder.zero (v1 p)).bound 2 = true ∧
      ((bank .default 3 Decoder.zero Decoder.zero (v1 p)).slot 2).lastPhase = p := by decide
theorem witness_UnselectedTransitionHasNoEffect :
    (v7 .default 3).bound 1 = true ∧ ((v7 .default 3).slot 1).lastPhase ≠ 0 ∧
      ((v7 .default 3).slot 2).inUse = false ∧ State.reset.count.val ≤ 0 := by decide
theorem witness_PulseRunsTheSelectedTransitionRow : (2 : SlotId).val = 2 ∧ 3 ≤ 3 := by decide
theorem witness_LateSamplingSeesTheMovementModuloFour : (limits .default).bound 0 = true := by decide
theorem witness_IdealSamplingCountsEveryStep :
    (v7 .default 3).bound 1 = true ∧ (bank .default 1 (constructed 8 true true false 3) Decoder.zero Decoder.zero).slot 0 =
      constructed 8 true true false 3 ∧
      (bank .default 1 (constructed 8 true true false 3) Decoder.zero Decoder.zero).bound 0 = true ∧
      AdjacentPath 3 [2, 0, 2] :=
  ⟨by decide, by decide, by decide, .inl (by decide), .inl (by decide), .inr (by decide), trivial⟩
theorem witness_IndexStoresTheChangeOrAnswersUnbound :
    ((v7 .default 2).count.val ≤ 2 ∧ ((v7 .default 3).slot 2).inUse = false ∧ ((v7 .default 3).slot 1).zPresent = false) ∧
    (v5 5 605).zBound 0 = true ∧ ((v5 5 605).slot 0).firstIndexSeen = true ∧
      (v7 .default 3).zBound 0 = true ∧ ((v7 .default 3).slot 0).firstIndexSeen = false := by decide
theorem witness_CalibrationMagnitudeCorners :
    (0x7FFFFFFF#32).toInt - (0xFFFFFFFF#32).toInt = 2 ^ 31 ∧ -(2 ^ 31) ≤ (0x80000000#32).toInt - (0#32).toInt ∧
      (0x80000000#32).toInt - (0#32).toInt < 2 ^ 31 := by decide
theorem witness_IndexMeasuresTheChangeSinceThePreviousIndex : (v5 5 605).zBound 0 = true ∧
    ∀ i ∈ ([.pulse 0 1, .index 1, .trans13 0, .rdppr 0] : List Instr), i ≠ .index (0 : SlotId).val := by decide
theorem witness_ReadIndexResolution :
    State.reset.count.val = 0 ∧ 2 < (v7 .default 3).count.val ∧
      (0 < (v7 .default 3).count.val ∧ (v7 .default 3).count.val ≤ 3 ∧ (v7 .default 3).params.oorPolicy = .wrap) ∧
      (0 < (v7 faulting 3).count.val ∧ (v7 faulting 3).count.val ≤ 3 ∧ (v7 faulting 3).params.oorPolicy = .fault) := by decide
theorem witness_ReadsReturnTheirField : (v7 .default 3).resolve 3 = .ok 0 ∧ (v7 .default 3).resolve 2 = .ok 2 := ⟨rfl, rfl⟩
theorem witness_ReadWithoutASlotAnswersItsStatus :
    (v7 faulting 3).resolve 3 = .error .indexRange ∧ State.reset.resolve 0 = .error .empty := ⟨rfl, rfl⟩
theorem witness_NonDestructiveReadsAreIdempotent :
    Instr.inuse 3 ∈ ([.rdnet 3, .rdppr 3, .inuse 3, .rdfwd 3, .rdrev 3, .rdflt 3] : List Instr) ∧
      exec (.inuse 3) (v7 .default 3) = .next (after (.inuse 3) (v7 .default 3)) := ⟨by decide, rfl⟩
theorem witness_SlotNotInUseReadsZero : (inUseAndNot []).Inv ∧ (inUseAndNot []).resolve 1 = .ok 1 ∧
    ((inUseAndNot []).slot 1).inUse = false ∧ (inUseAndNot []).params.consumeAtomic = true :=
  ⟨inUseAndNot_inv [], rfl, by decide, by decide⟩
theorem witness_AtomicConsumeReturnsAndClearsTheLatch :
    ((v7 .default 3).params.consumeAtomic = true ∧ (v7 .default 3).resolve 1 = .ok 1) ∧
      (v7 faulting 3).resolve 3 = .error .indexRange ∧ 3 < 4 := ⟨⟨rfl, rfl⟩, rfl, by decide⟩
theorem witness_ConsumeTwiceReportsOnce :
    (v7 .default 3).params.consumeAtomic = true ∧ (v7 .default 3).resolve 3 = .ok 0 := ⟨rfl, rfl⟩
theorem witness_AtomicConsumeLosesNoFault :
    (v7 .default 3).params.consumeAtomic = true ∧ (v7 .default 3).bound 0 = true ∧ (v7 .default 3).resolve 3 = .ok 0 ∧
      decodePair ((v7 .default 3).slot 0).lastPhase 3 = .fault ∧
      ∀ o ∈ ([.pulse 0 1, .index 0, .trans01 1] : List Instr), isInterruptOperation o :=
  ⟨rfl, by decide, rfl, by decide, by simp [isInterruptOperation, Instr.context]⟩

/-- A split CFAULT under way on slot 1, with a read waiting. -/
def halfway (inputs : List Input) : State :=
  ((v7 splitting 3).setSplit 1 ⟨true, true⟩).setInputs inputs

theorem witness_SplitConsumeReadsThenClears :
    ((v7 splitting 3).params.consumeAtomic = false ∧ (v7 splitting 3).resolve 1 = .ok 1) ∧
      (halfway [.clear 1]).inputs = .clear 1 :: [] ∧ ((halfway [.clear 1]).split.get 1).busy = true := ⟨⟨rfl, rfl⟩, rfl, rfl⟩
theorem witness_HostOperationWaitsForTheClearStep :
    (halfway [.request (.cmd 0x4000 0)]).inputs = .request (.cmd 0x4000 0) :: [] ∧
      decode (.cmd 0x4000 0) = .ok (.rdnet 0) ∧ (Instr.rdnet 0).context = .poll ∧
      (halfway [.request (.cmd 0x4000 0)]).busySlot = some 1 := ⟨rfl, rfl, rfl, rfl⟩
/-- V8's schedule on a fresh slot 0 at phase 0. -/
def v8 : State :=
  (bank splitting 1 (constructed 600 true true true 0) Decoder.zero Decoder.zero).setInputs
    [.request (encode (.cfault 0)), .request (encode (.pulse 0 3)), .clear 0]
theorem witness_SplitConsumeCanLoseAReport :
    v8.params.consumeAtomic = false ∧ v8.busySlot = none ∧ 0 < 4 ∧ v8.resolve 0 = .ok 0 ∧ v8.bound 0 = true ∧
      decodePair (v8.slot 0).lastPhase 3 = .fault ∧
      v8.inputs = .request (encode (.cfault 0)) :: .request (encode (.pulse (0 : SlotId).val 3)) :: .clear 0 :: [] :=
  ⟨rfl, rfl, by decide, rfl, by decide, by decide, rfl⟩
theorem witness_RegisterAssignsAndConstructsTheNextSlot :
    (v7 .default 2).params.irqModel = .free ∧ (2 : SlotId).val = (v7 .default 2).count.val ∧
      (2 : SlotId).val = (v7 pinned 2).count.val ∧ ∀ j c, ((v7 .default 2).pending.get j).get c = false :=
  ⟨rfl, rfl, rfl, fun _ c => by cases c <;> decide +revert⟩
theorem witness_RegisterUnderEdgePendingSamplesThePins :
    (v7 pinned 2).params.irqModel = .edgePending ∧ (2 : SlotId).val = (v7 pinned 2).count.val := by decide
theorem witness_RegisterOnAFullRegistryChangesNothing : (v7 .default 3).count = 3 := by decide
theorem witness_StepRunsTheDecodedOperation :
    ((v7 .default 3).setInputs [.request (.cmd 0x2600 0)]).inputs = .request (.cmd 0x2600 0) :: [] ∧
      decode (.cmd 0x2600 0) = .ok (.pulse 1 2) ∧ ((v7 .default 3).setInputs [.request (.cmd 0x2600 0)]).busySlot = none ∧
      (halfway [.request (.cmd 0x2600 0)]).busySlot = some 1 ∧ (Instr.pulse 1 2).context = .interrupt ∧
      decode (requestOfBits 8 7) = .ok (.trans13 0) ∧ State.reset.busySlot = none ∧ State.reset.inputs = [] :=
  ⟨rfl, rfl, rfl, rfl, rfl, rfl, rfl, rfl⟩
theorem witness_PinChangeRequestsItsCallback :
    ((v7 pinned 3).setInputs [.edge 0 .z]).params.irqModel = .edgePending ∧
      ((v7 pinned 3).setInputs [.edge 0 .z]).inputs = .edge 0 .z :: [] ∧
      ((v7 pinned 3).setInputs [.edge 2 .a]).inputs = .edge 2 .a :: [] ∧ Channel.a ≠ .z := by decide
/-- All three sources of slot 0 pending. -/
def pendingAll (inputs : List Input) : State := ((v7 pinned 3).setPending 0 ⟨true, true, true⟩).setInputs inputs
theorem witness_DispatchRunsThePendingCallback :
    (pendingAll [.dispatch 0 .a]).inputs = .dispatch 0 .a :: [] ∧ ((pendingAll []).pending.get 0).a = true ∧
      (pendingAll [.dispatch 0 .b]).inputs = .dispatch 0 .b :: [] ∧ ((pendingAll []).pending.get 0).b = true ∧
      (pendingAll [.dispatch 0 .z]).inputs = .dispatch 0 .z :: [] ∧ ((pendingAll []).pending.get 0).z = true := by decide
/-- The general hypotheses of `MergedEdgesLoseCounts` hold whatever schedule is placed. -/
theorem witness_MergedEdgesLoseCounts (l : List Input) :
    let s := (v7 pinned 3).setInputs l
    s.params.irqModel = .edgePending ∧ s.bound 0 = true ∧ s.pending.get 0 = ⟨false, false, false⟩ ∧
      (s.slot 0).lastPhase = BitVec.ofBool (s.pins.get 0).b ++ BitVec.ofBool (s.pins.get 0).a ∧ s.inputs = l :=
  ⟨rfl, rfl, rfl,
    show ((v7 pinned 3).slot 0).lastPhase =
      BitVec.ofBool ((v7 pinned 3).pins.get 0).b ++ BitVec.ofBool ((v7 pinned 3).pins.get 0).a from by decide, rfl⟩
theorem witness_StepKeepsTheInvariant : (inUseAndNot [.request (.cmd 0x2100 0)]).Inv ∧
    step (inUseAndNot [.request (.cmd 0x2100 0)]) = .next (after (.pulse 0 1) (inUseAndNot [])) :=
  ⟨inUseAndNot_inv _, rfl⟩
theorem witness_NetCountIsForwardLessReverse : (inUseAndNot [.request (.cmd 0x2200 0)]).NetCountConsistent ∧
    step (inUseAndNot [.request (.cmd 0x2200 0)]) = .next (after (.pulse 0 2) (inUseAndNot [])) ∧
    ((((inUseAndNot []).slot 0).forwardCount.toNat : Int) - ((inUseAndNot []).slot 0).reverseCount.toNat < 2 ^ 31 ∧
      -(2 ^ 31) ≤ (((inUseAndNot []).slot 0).forwardCount.toNat : Int) - ((inUseAndNot []).slot 0).reverseCount.toNat) :=
  ⟨(inUseAndNot_inv _).netCount, rfl, by decide⟩
/-- A registered slot that has seen an index pulse, and a step from its state. -/
theorem witness_steps_of_a_registered_slot :
    (0 : SlotId).val < (v5 605 5).count.val ∧ ((v5 605 5).slot 0).firstIndexSeen = true ∧
      ∃ t, step (v5 605 5) = .next t := ⟨by decide, by decide, _, rfl⟩
theorem witness_CountNeverDecreases : ∃ t, step ((v7 .default 2).setInputs [.request (.cmd 0x10E0 0)]) = .next t ∧
    t.count ≠ ((v7 .default 2).setInputs [.request (.cmd 0x10E0 0)]).count := ⟨_, rfl, by decide⟩
theorem witness_FaultLatchChangesOnlyByPulseAndConsume :
    (1 : SlotId).val < (v7 .default 3).count.val ∧
      exec (.cfault 1) (v7 .default 3) = .next (after (.cfault 1) (v7 .default 3)) ∧
      ((v7 .default 3).slot 1).faultLatch = true ∧ ((after (.cfault 1) (v7 .default 3)).slot 1).faultLatch = false ∧
      exec (.pulse 0 3) (v7 .default 3) = .next (after (.pulse 0 3) (v7 .default 3)) ∧
      ((v7 .default 3).slot 0).faultLatch = false ∧ ((after (.pulse 0 3) (v7 .default 3)).slot 0).faultLatch = true :=
  ⟨by decide, rfl, by decide, by decide, rfl, by decide, by decide⟩
theorem witness_CountersChangeOnlyByInterruptOperations :
    (0 : SlotId).val < (v5 605 5).count.val ∧ exec (.index 0) (v5 605 5) = .next (after (.index 0) (v5 605 5)) ∧
      ((after (.index 0) (v5 605 5)).slot 0).calcPPR ≠ ((v5 605 5).slot 0).calcPPR ∧
      ((after (.pulse 0 1) (v5 605 5)).slot 0).forwardCount ≠ ((v5 605 5).slot 0).forwardCount ∧
      ((after (.pulse 0 2) (v5 605 5)).slot 0).reverseCount ≠ ((v5 605 5).slot 0).reverseCount ∧
      ((after (.pulse 0 3) (v5 605 5)).slot 0).faultCount ≠ ((v5 605 5).slot 0).faultCount :=
  ⟨by decide, rfl, by decide, by decide, by decide, by decide⟩
theorem witness_OperationWritesOnlyItsOwnSlot :
    exec (.pulse 0 1) (v7 .default 3) = .next (after (.pulse 0 1) (v7 .default 3)) ∧
      targetSlot (.pulse 0 1) (v7 .default 3) ≠ some 1 := ⟨rfl, by decide⟩
theorem witness_OperationReadsOnlyItsOwnSlot :
    (v7 .default 3).count = ((v7 .default 3).setSlot 1 (v1 2)).count ∧
      (∀ j, targetSlot (.pulse 0 1) (v7 .default 3) = some j →
        (v7 .default 3).slot j = ((v7 .default 3).setSlot 1 (v1 2)).slot j) ∧
      exec (.pulse 0 1) (v7 .default 3) = .next (after (.pulse 0 1) (v7 .default 3)) := ⟨by decide, by decide, rfl⟩
theorem witness_OperationsOnDifferentSlotsCommute :
    (Instr.pulse 0 1).context ≠ .setup ∧ (Instr.cfault 1).context ≠ .setup ∧
      targetSlot (.pulse 0 1) (v7 .default 3) = some 0 ∧ targetSlot (.cfault 1) (v7 .default 3) = some 1 ∧
      (0 : SlotId) ≠ 1 ∧ (v7 .default 3).params.consumeAtomic = true := by decide
theorem witness_EveryScheduledActionIsTakenWithinTwoSteps :
    (halfway [.request (.cmd 0x4000 0)]).SplitJustified ∧
      (halfway [.request (.cmd 0x4000 0)]).inputs = .request (.cmd 0x4000 0) :: [] := by
  constructor
  · show (∀ k, ((halfway []).split.get k).busy = true → (halfway []).params.consumeAtomic = false ∧
      k.val < (halfway []).count.val) ∧
      ∀ j k, ((halfway []).split.get j).busy = true → ((halfway []).split.get k).busy = true → j = k
    decide
  · rfl

end Sys2Proof.Tests
end

/-! ### Power-on reset: the state's fields, and which slots are bound -/

namespace Sys2Proof.Machine

@[simp] theorem State.resetWith_count (p : Params) : (State.resetWith p).count = 0 := rfl

@[simp] theorem State.resetWith_params (p : Params) : (State.resetWith p).params = p := rfl

@[simp] theorem State.resetWith_slot (p : Params) (k : SlotId) : (State.resetWith p).slot k = Decoder.zero :=
  Bank.get_all Decoder.zero k

@[simp] theorem State.resetWith_pending_get (p : Params) (k : SlotId) :
    (State.resetWith p).pending.get k = Lines.zero :=
  Bank.get_all Lines.zero k

@[simp] theorem State.resetWith_split_get (p : Params) (k : SlotId) :
    (State.resetWith p).split.get k = SplitRead.zero :=
  Bank.get_all SplitRead.zero k

@[simp] theorem Lines.zero_get (c : Channel) : Lines.zero.get c = false := by
  cases c with
  | a | b | z => rfl

/-- A slot that is not registered is not bound, whatever its pins (spec/10_state.md R35). -/
theorem State.bound_eq_false_of_unregistered (s : State) (k : SlotId) (h : s.count.val ≤ k.val) :
    s.bound k = false := by
  rw [Bool.eq_false_iff]
  intro hb
  obtain ⟨hk, _, _⟩ := (s.bound_iff k).1 hb
  omega

end Sys2Proof.Machine

namespace Sys2Proof

open Machine

/-- Settles O9: every bank holds three zero items after reset, and a count of 0 leaves no slot to resolve or bind. -/
theorem resetLeavesTheBankEmptyAndZero : Obligations.ResetLeavesTheBankEmptyAndZero := by
  unfold Obligations.ResetLeavesTheBankEmptyAndZero
  intro p
  have hcount : (State.resetWith p).count.val = 0 := by simp
  refine ⟨State.resetWith_count p, State.resetWith_params p, State.resetWith_slot p, ?pending, ?split, ?resolve, ?bound⟩
  case pending =>
    intro k c
    rw [State.resetWith_pending_get, Lines.zero_get]
  case split => exact fun k => congrArg SplitRead.busy (State.resetWith_split_get p k)
  case resolve => exact fun i => State.resolve_empty _ i hcount
  case bound => exact fun k => State.bound_eq_false_of_unregistered _ k (by omega)

end Sys2Proof

/-! ### Masks made of fields: two words agree under such a mask when they agree on each field -/

namespace Sys2Proof

/-- The mask of the field of `len` bits that begins at bit `lo`. -/
def fieldMask (lo len : Nat) : BitVec 16 := (BitVec.allOnes len).setWidth 16 <<< lo

theorem getLsbD_fieldMask (lo len i : Nat) :
    (fieldMask lo len).getLsbD i = true ↔ i < 16 ∧ lo ≤ i ∧ i < lo + len := by
  simp only [fieldMask, BitVec.getLsbD_shiftLeft, BitVec.getLsbD_setWidth, BitVec.getLsbD_allOnes,
    Bool.and_eq_true, Bool.not_eq_true', decide_eq_true_eq, decide_eq_false_iff_not]
  omega

/-- Two words agree under a mask when they agree on each of its bits. -/
theorem and_mask_eq_iff (w p m : BitVec 16) :
    w &&& m = p &&& m ↔ ∀ i, m.getLsbD i = true → w.getLsbD i = p.getLsbD i := by
  constructor
  · intro h i hi
    simpa [hi] using congrArg (·.getLsbD i) h
  · intro h
    apply BitVec.eq_of_getLsbD_eq
    intro i _
    rw [BitVec.getLsbD_and, BitVec.getLsbD_and]
    cases hi : m.getLsbD i with
    | false => rw [Bool.and_false, Bool.and_false]
    | true => rw [h i hi]

theorem and_or_mask_eq_iff (w p a b : BitVec 16) :
    w &&& (a ||| b) = p &&& (a ||| b) ↔ w &&& a = p &&& a ∧ w &&& b = p &&& b := by
  simp only [and_mask_eq_iff, BitVec.getLsbD_or, Bool.or_eq_true, or_imp, forall_and]

theorem and_fieldMask_eq_iff (w p : BitVec 16) (lo len : Nat) (hlen : lo + len ≤ 16) :
    w &&& fieldMask lo len = p &&& fieldMask lo len ↔ w.extractLsb' lo len = p.extractLsb' lo len := by
  rw [and_mask_eq_iff]
  constructor
  · intro h
    apply BitVec.eq_of_getLsbD_eq
    intro i hi
    have hbit := h (lo + i) ((getLsbD_fieldMask lo len _).2 (by omega))
    rw [BitVec.getLsbD_extractLsb', BitVec.getLsbD_extractLsb', hbit]
  · intro h i hi
    obtain ⟨_, hlo, hhi⟩ := (getLsbD_fieldMask lo len i).1 hi
    have hlt : i - lo < len := by omega
    simpa [hlt, Nat.add_sub_cancel' hlo] using congrArg (·.getLsbD (i - lo)) h

/-! ### The rows of R113: `OP`, one field the operation leaves unused, and `RSV` -/

/-- First bit and length of the bits of a command word that the operation `op` leaves unused, besides `RSV`
(spec/30_encoding.md R113). -/
def unusedField (op : BitVec 4) : Nat × Nat :=
  match op.toNat with
  | 0x0 => (5, 7)
  | 0x1 => (10, 2)
  | 0x2 => (5, 3)
  | _ => (5, 5)

/-- The bits that the operation of `w` leaves unused are zero, `RSV` among them. -/
def UnusedBitsZero (w : BitVec 16) : Prop :=
  w.extractLsb' (unusedField (cmdOp w)).1 (unusedField (cmdOp w)).2 = 0 ∧ cmdRsv w = 0

theorem unusedField_bound (op : BitVec 4) : (unusedField op).1 + (unusedField op).2 ≤ 16 := by
  revert op
  decide

/-- The mask of every row covers `OP`, the field its operation leaves unused and `RSV`. -/
theorem cmdRows_mask : ∀ row ∈ cmdRows,
    row.mask = fieldMask 12 4 |||
      (fieldMask (unusedField (cmdOp row.pattern)).1 (unusedField (cmdOp row.pattern)).2 ||| fieldMask 0 5) := by
  decide

theorem cmdRows_pattern : ∀ row ∈ cmdRows, row.pattern &&& row.mask = row.pattern ∧ UnusedBitsZero row.pattern := by
  unfold UnusedBitsZero
  decide

/-- A word matches a row when it has the row's `OP` and the bits that this operation leaves unused are zero. -/
theorem row_matches_iff (w : BitVec 16) {row : OpcodeRow} (hrow : row ∈ cmdRows) :
    w &&& row.mask = row.pattern ↔ cmdOp w = cmdOp row.pattern ∧ UnusedBitsZero w := by
  obtain ⟨hmasked, hfield, hrsv⟩ := cmdRows_pattern row hrow
  have hfields : w &&& row.mask = row.pattern ↔ cmdOp w = cmdOp row.pattern ∧
      w.extractLsb' (unusedField (cmdOp row.pattern)).1 (unusedField (cmdOp row.pattern)).2 = 0 ∧ cmdRsv w = 0 := by
    rw [← hfield, ← hrsv]
    conv_lhs => rw [← hmasked, cmdRows_mask row hrow]
    rw [and_or_mask_eq_iff, and_or_mask_eq_iff, and_fieldMask_eq_iff _ _ _ _ (by decide),
      and_fieldMask_eq_iff _ _ _ _ (unusedField_bound _), and_fieldMask_eq_iff _ _ _ _ (by decide)]
    rfl
  rw [hfields]
  unfold UnusedBitsZero
  refine and_congr_right fun hop => ?_
  rw [hop]

/-- The operations that have a row are those of `OP` 0 to 10. -/
theorem exists_row_of_op : ∀ op : BitVec 4, (∃ row ∈ cmdRows, cmdOp row.pattern = op) ↔ op.toNat ≤ 0xA := by
  decide

theorem row_eq_of_op_eq : ∀ row ∈ cmdRows, ∀ row' ∈ cmdRows, cmdOp row.pattern = cmdOp row'.pattern → row = row' := by
  decide

theorem row_unique_of_matches (w : BitVec 16) {row row' : OpcodeRow} (hrow : row ∈ cmdRows) (hrow' : row' ∈ cmdRows)
    (hw : w &&& row.mask = row.pattern) (hw' : w &&& row'.mask = row'.pattern) : row = row' := by
  obtain ⟨hop, _⟩ := (row_matches_iff w hrow).1 hw
  obtain ⟨hop', _⟩ := (row_matches_iff w hrow').1 hw'
  exact row_eq_of_op_eq row hrow row' hrow' (hop.symm.trans hop')

theorem exists_row_matches_iff (w : BitVec 16) :
    (∃ row ∈ cmdRows, w &&& row.mask = row.pattern) ↔ (cmdOp w).toNat ≤ 0xA ∧ UnusedBitsZero w := by
  rw [← exists_row_of_op]
  constructor
  · rintro ⟨row, hrow, hw⟩
    obtain ⟨hop, hzero⟩ := (row_matches_iff w hrow).1 hw
    exact ⟨⟨row, hrow, hop.symm⟩, hzero⟩
  · rintro ⟨⟨row, hrow, hop⟩, hzero⟩
    exact ⟨row, hrow, (row_matches_iff w hrow).2 ⟨hop.symm, hzero⟩⟩

/-! ### Which command words the decoder accepts -/

theorem whenUnusedZero_ok_iff (unusedZero : Bool) (i : Instr) :
    (∃ j, whenUnusedZero unusedZero i = .ok j) ↔ unusedZero = true := by
  cases unusedZero with
  | false => simp [whenUnusedZero]
  | true => simp [whenUnusedZero]

theorem decodeCmd_ok_iff (w : BitVec 16) (wdata : Word) :
    (∃ i, decodeCmd w wdata = .ok i) ↔ (cmdOp w).toNat ≤ 0xA ∧ UnusedBitsZero w := by
  unfold decodeCmd UnusedBitsZero
  by_cases hrsv : cmdRsv w = 0
  case neg =>
    rw [if_pos hrsv]
    exact ⟨nofun, fun ⟨_, _, h⟩ => absurd h hrsv⟩
  case pos =>
    rw [if_neg (not_not.2 hrsv), and_iff_left hrsv]
    split
    case h_12 =>
      have hreserved : ¬ (cmdOp w).toNat ≤ 0xA := by
        simp only [imp_false] at *
        omega
      exact ⟨nofun, fun ⟨h, _⟩ => absurd h hreserved⟩
    all_goals
      rename_i hop
      rw [whenUnusedZero_ok_iff]
      simp [hop, unusedField, cmdSlot, BitVec.toNat_eq]

theorem decode_cmd_ok_iff_exists_row (w : BitVec 16) (wdata : Word) :
    (∃ i, decode (.cmd w wdata) = .ok i) ↔ ∃ row ∈ cmdRows, w &&& row.mask = row.pattern :=
  (decodeCmd_ok_iff w wdata).trans (exists_row_matches_iff w).symm

end Sys2Proof

namespace Sys2Proof.Machine

/-- A scheduled request that the decoder rejects is consumed, and only the response port is written, whether a CFAULT
is split or not (spec/30_encoding.md R116). -/
theorem step_of_decode_error {s : State} {r : Request} {rest : List Input} {e : DecodeError}
    (hinputs : s.inputs = .request r :: rest) (hdecode : decode r = .error e) :
    step s = .next ((s.setInputs rest).raise .illegal) := by
  simp only [step, State.advance, hinputs, State.serve, State.present, hdecode, State.rejectWord]

end Sys2Proof.Machine

namespace Sys2Proof

open Machine

/-- Settles O3: a matching row has the word's `OP`, and the rows differ in `OP`, so at most one matches; one matches
exactly when the decoder finds the unused bits of that `OP` zero. -/
theorem commandWordIsLegalIffOneRowMatches : Obligations.CommandWordIsLegalIffOneRowMatches := by
  unfold Obligations.CommandWordIsLegalIffOneRowMatches
  refine ⟨?legal, ?illegal⟩
  case legal =>
    intro w wdata
    rw [decode_cmd_ok_iff_exists_row]
    constructor
    · rintro ⟨row, hrow, hw⟩
      exact ⟨row, ⟨hrow, hw⟩, fun row' ⟨hrow', hw'⟩ => row_unique_of_matches w hrow' hrow hw' hw⟩
    · rintro ⟨row, ⟨hrow, hw⟩, _⟩
      exact ⟨row, hrow, hw⟩
  case illegal =>
    intro s w wdata rest hinputs hnone
    cases hdecode : decode (.cmd w wdata) with
    | error e => exact step_of_decode_error hinputs hdecode
    | ok i =>
      obtain ⟨row, hrow, hw⟩ := (decode_cmd_ok_iff_exists_row w wdata).1 ⟨i, hdecode⟩
      exact absurd hw (hnone row hrow)

end Sys2Proof

/-! ### The DecodeTable: the phase cycle and the four classes -/

namespace Sys2Proof.Machine

theorem nextPhase_values : nextPhase 0 = 1 ∧ nextPhase 1 = 3 ∧ nextPhase 3 = 2 ∧ nextPhase 2 = 0 := ⟨rfl, rfl, rfl, rfl⟩

theorem prevPhase_values : prevPhase 1 = 0 ∧ prevPhase 3 = 1 ∧ prevPhase 2 = 3 ∧ prevPhase 0 = 2 := ⟨rfl, rfl, rfl, rfl⟩

@[simp] theorem decodePair_self : ∀ p : Phase, decodePair p p = .noChg := by decide

@[simp] theorem decodePair_nextPhase : ∀ p : Phase, decodePair p (nextPhase p) = .fwd := by decide

@[simp] theorem decodePair_prevPhase : ∀ p : Phase, decodePair p (prevPhase p) = .rev := by decide

theorem decodePair_eq_fault_iff : ∀ p n : Phase, decodePair p n = .fault ↔ p ^^^ n = 0b11 := by decide

/-- The pairs whose codes differ in both bits (spec/30_encoding.md R104). -/
theorem xor_eq_three_iff_mem : ∀ p n : Phase,
    p ^^^ n = 0b11 ↔ (p, n) ∈ ([(0, 3), (3, 0), (1, 2), (2, 1)] : List (Phase × Phase)) := by decide

theorem tableRead_eq_noChg_iff : ∀ idx, tableRead idx = .noChg ↔ idx ∈ ([0, 5, 10, 15] : List (BitVec 4)) := by decide

theorem tableRead_eq_fwd_iff : ∀ idx, tableRead idx = .fwd ↔ idx ∈ ([1, 7, 14, 8] : List (BitVec 4)) := by decide

theorem tableRead_eq_rev_iff : ∀ idx, tableRead idx = .rev ↔ idx ∈ ([4, 13, 11, 2] : List (BitVec 4)) := by decide

theorem tableRead_eq_fault_iff : ∀ idx, tableRead idx = .fault ↔ idx ∈ ([3, 12, 6, 9] : List (BitVec 4)) := by decide

end Sys2Proof.Machine

namespace Sys2Proof

open Machine

/-- Settles O7: the classes by pair (identical, next, previous, both bits differing), then by index of the table. -/
theorem decodeTableClasses : Obligations.DecodeTableClasses := by
  unfold Obligations.DecodeTableClasses
  have fault_pairs (p n : Phase) := (decodePair_eq_fault_iff p n).trans (xor_eq_three_iff_mem p n)
  exact ⟨decodePair_self, decodePair_nextPhase, nextPhase_values, decodePair_prevPhase, prevPhase_values,
    decodePair_eq_fault_iff, fault_pairs, tableRead_eq_noChg_iff, tableRead_eq_fwd_iff, tableRead_eq_rev_iff,
    tableRead_eq_fault_iff⟩

end Sys2Proof

/-! ### NOP -/

namespace Sys2Proof

open Machine

theorem encode_nop : encode .nop = .cmd 0x0000 0 := rfl

theorem decode_nop_word (wdata : Word) : decode (.cmd 0x0000 wdata) = .ok .nop := rfl

theorem exec_nop (s : State) : exec .nop s = .next (s.ret 0) := rfl

/-- Settles O12: the data word is read by REGISTER only, and `execNop` returns 0 on the state it is given. -/
theorem nopOnlyResponds : Obligations.NopOnlyResponds := by
  unfold Obligations.NopOnlyResponds
  refine ⟨encode_nop, decode_nop_word, fun s => ?_⟩
  rw [exec_nop, State.ret_eq]

end Sys2Proof

/-! ### REGISTER with a free slot: the rules of `assign`, CONSTRUCT and the response -/

namespace Sys2Proof.Machine

variable (s : State)

@[simp] theorem State.assign_slot (k : SlotId) (d : Decoder) (j : SlotId) :
    (s.assign k d).slot j = if j = k then d else s.slot j := by
  simp [State.assign]

@[simp] theorem State.assign_pending_get (k : SlotId) (d : Decoder) (j : SlotId) :
    (s.assign k d).pending.get j = Lines.zero :=
  Bank.get_all Lines.zero j

@[simp] theorem State.assign_pins (k : SlotId) (d : Decoder) : (s.assign k d).pins = s.pins := rfl

@[simp] theorem State.assign_split (k : SlotId) (d : Decoder) : (s.assign k d).split = s.split := rfl

@[simp] theorem State.assign_params (k : SlotId) (d : Decoder) : (s.assign k d).params = s.params := rfl

@[simp] theorem State.assign_inputs (k : SlotId) (d : Decoder) : (s.assign k d).inputs = s.inputs := rfl

/-- A free slot exists below `NUM_SLOTS` only, so the increment of the 2-bit `count` does not wrap. -/
theorem State.assign_count_val {k : SlotId} (hk : k.val = s.count.val) (d : Decoder) :
    (s.assign k d).count.val = s.count.val + 1 := by
  have hlt := k.isLt
  simp only [State.assign, State.dropPending_count, State.setSlot_count, State.setCount_count, Fin.val_ofNat]
  omega

/-- The slot just assigned is registered, so its callbacks depend on its pins alone (spec/10_state.md R35). -/
theorem State.assign_bound_iff {k : SlotId} (hk : k.val = s.count.val) (d : Decoder) :
    (s.assign k d).bound k = true ↔ d.aValid = true ∧ d.bValid = true := by
  have hregistered : k.val < (s.assign k d).count.val := by
    rw [s.assign_count_val hk d]
    omega
  rw [State.bound_iff, State.assign_slot, if_pos rfl, and_iff_right hregistered]

theorem State.assign_zBound_iff {k : SlotId} (hk : k.val = s.count.val) (d : Decoder) :
    (s.assign k d).zBound k = true ↔ d.aValid = true ∧ d.bValid = true ∧ d.zPresent = true := by
  rw [State.zBound_iff, s.assign_bound_iff hk d, State.assign_slot, if_pos rfl, and_assoc]

theorem State.initialPhase_of_free (h : s.params.irqModel = .free) (k : SlotId) (ph0 : Phase) :
    s.initialPhase k ph0 = ph0 := by
  simp [State.initialPhase, h]

/-- CONSTRUCT with its condition on the two required pins read as a proposition (spec/40_construct.md R131). -/
theorem constructed_eq (ppr : Word) (av bv zp : Bool) (ph : Phase) :
    constructed ppr av bv zp ph =
      { lastPhase := if av = true ∧ bv = true then ph else 0
        netCount := 0, forwardCount := 0, reverseCount := 0, faultCount := 0, faultLatch := false
        firstIndexSeen := false, netCountAtLastIndex := 0, calcPPR := 0
        cfgPPR := ppr, aValid := av, bValid := bv, zPresent := zp } := by
  simp only [constructed, Bool.and_eq_true]

theorem exec_register_of_free {k : SlotId} (hk : k.val = s.count.val) (ppr : Word) (av bv zp : Bool) (ph0 : Phase) :
    exec (.register ppr av bv zp ph0) s =
      .next ((s.assign k (constructed ppr av bv zp (s.initialPhase k ph0))).respond
        (if av = true ∧ bv = true then .ok else .configPins) (zextSlot k)) := by
  have hfree : s.freeSlot = some k := (s.freeSlot_eq_some k).2 hk
  simp only [exec, execRegister, hfree, Bool.and_eq_true]

end Sys2Proof.Machine

namespace Sys2Proof

open Machine

/-- Settles O41: REGISTER writes the response port after `assign` of the constructed slot, and each clause is a rule of
one of the two. -/
theorem registerAssignsAndConstructsTheNextSlot : Obligations.RegisterAssignsAndConstructsTheNextSlot := by
  unfold Obligations.RegisterAssignsAndConstructsTheNextSlot
  intro s k ppr av bv zp ph0 hk
  refine ⟨_, s.initialPhase k ph0, exec_register_of_free s hk ppr av bv zp ph0, ?count,
    fun hfree => s.initialPhase_of_free hfree k ph0, ?slot, ?bound, ?zBound, rfl, ?others, ?pending, rfl, rfl, rfl, rfl⟩
  case count => rw [State.respond_count, s.assign_count_val hk]
  case slot => rw [State.respond_slot, State.assign_slot, if_pos rfl, constructed_eq]
  case bound => rw [State.respond_bound, s.assign_bound_iff hk, constructed_eq]
  case zBound => rw [State.respond_zBound, s.assign_zBound_iff hk, constructed_eq]
  case others =>
    intro j hj
    rw [State.respond_slot, State.assign_slot, if_neg hj]
  case pending =>
    intro _ j c
    rw [State.respond_pending, State.assign_pending_get, Lines.zero_get]

end Sys2Proof

/-! ### PULSE: the rules of `exec`, the counters as numbers, and the pairs of each class -/

namespace Sys2Proof.Machine

variable (s : State)

/-- Writing back what a slot already holds is no write. -/
theorem State.setSlot_slot_self (j : SlotId) : s.setSlot j (s.slot j) = s := by
  have hslots : s.slots.set j (s.slots.get j) = s.slots := Bank.set_get _ _
  simp only [State.setSlot, State.slot, hslots]

/-- A slot that is not in use is not bound, whether it is registered or not (spec/10_state.md R35). -/
theorem State.bound_eq_false_of_not_inUse (k : SlotId) (h : (s.slot k).inUse = false) : s.bound k = false := by
  simp only [State.bound, h, Bool.and_false]

theorem exec_pulse_of_bound {j : SlotId} (hbound : s.bound j = true) (ph : Phase) :
    exec (.pulse j.val ph) s =
      .next ((s.setSlot j (pulsed (decodePair (s.slot j).lastPhase ph) ph (s.slot j))).ret 0) := by
  have hslot : s.boundSlot j.val = some j := (s.boundSlot_eq_some j.val j).2 ⟨rfl, hbound⟩
  simp only [exec, execPulse, hslot, State.pulseResult]

theorem exec_pulse_of_unbound {k : Nat} (hunbound : ∀ j : SlotId, j.val = k → s.bound j = false) (ph : Phase) :
    exec (.pulse k ph) s = .next (s.raise .unbound) := by
  have hslot : s.boundSlot k = none := (s.boundSlot_eq_none k).2 hunbound
  simp only [exec, execPulse, hslot]

/-- PULSE on a bound slot with the table's result known: it completes with `OK`, and the slot holds the decoder that
result makes (spec/41_pulse.md R142). -/
theorem exec_pulse_of_result {j : SlotId} (hbound : s.bound j = true) {ph : Phase} {r : DecodeResult}
    (hresult : decodePair (s.slot j).lastPhase ph = r) :
    ∃ t, exec (.pulse j.val ph) s = .next t ∧ t.response = ⟨.ok, 0⟩ ∧ t.slot j = pulsed r ph (s.slot j) := by
  refine ⟨_, exec_pulse_of_bound s hbound ph, rfl, ?_⟩
  rw [State.ret_slot, State.setSlot_slot, if_pos rfl, hresult]

theorem toNat_word_succ (x : Word) : (x + 1).toNat = (x.toNat + 1) % 2 ^ 32 := BitVec.toNat_add x 1

theorem toInt_word_succ (x : Word) : (x + 1).toInt = (x.toInt + 1).bmod (2 ^ 32) := BitVec.toInt_add x 1

theorem toInt_word_pred (x : Word) : (x - 1).toInt = (x.toInt - 1).bmod (2 ^ 32) := BitVec.toInt_sub

/-- The pairs that step once along the phase cycle (spec/30_encoding.md R102). -/
theorem decodePair_eq_fwd_iff_mem : ∀ p n : Phase,
    decodePair p n = .fwd ↔ (p, n) ∈ ([(0, 1), (1, 3), (3, 2), (2, 0)] : List (Phase × Phase)) := by decide

/-- The pairs that step once against the phase cycle (spec/30_encoding.md R103). -/
theorem decodePair_eq_rev_iff_mem : ∀ p n : Phase,
    decodePair p n = .rev ↔ (p, n) ∈ ([(1, 0), (3, 1), (2, 3), (0, 2)] : List (Phase × Phase)) := by decide

theorem decodePair_eq_fault_iff_mem (p n : Phase) :
    decodePair p n = .fault ↔ (p, n) ∈ ([(0, 3), (3, 0), (1, 2), (2, 1)] : List (Phase × Phase)) :=
  (decodePair_eq_fault_iff p n).trans (xor_eq_three_iff_mem p n)

end Sys2Proof.Machine

namespace Sys2Proof

open Machine

/-- Settles O15: a listed pair has the result FWD, and the two increments are read as numbers. -/
theorem forwardPairCountsUp : Obligations.ForwardPairCountsUp := by
  unfold Obligations.ForwardPairCountsUp
  intro s j ph hbound hpair
  have hfwd := (decodePair_eq_fwd_iff_mem _ _).2 hpair
  obtain ⟨t, hexec, _, hslot⟩ := exec_pulse_of_result s hbound hfwd
  refine ⟨t, hexec, ?_⟩
  rw [hslot, pulsed_fwd]
  exact ⟨toNat_word_succ _, toInt_word_succ _, rfl, rfl, rfl⟩

/-- Settles O16: a listed pair has the result REV, and the increment and the decrement are read as numbers. -/
theorem reversePairCountsDown : Obligations.ReversePairCountsDown := by
  unfold Obligations.ReversePairCountsDown
  intro s j ph hbound hpair
  have hrev := (decodePair_eq_rev_iff_mem _ _).2 hpair
  obtain ⟨t, hexec, _, hslot⟩ := exec_pulse_of_result s hbound hrev
  refine ⟨t, hexec, ?_⟩
  rw [hslot, pulsed_rev]
  exact ⟨toNat_word_succ _, toInt_word_pred _, rfl, rfl, rfl⟩

/-- Settles O18: a listed pair has the result FAULT, which is no raise, so the status is `OK`. -/
theorem diagonalPairRecordsAFault : Obligations.DiagonalPairRecordsAFault := by
  unfold Obligations.DiagonalPairRecordsAFault
  intro s j ph hbound hpair
  have hfault := (decodePair_eq_fault_iff_mem _ _).2 hpair
  obtain ⟨t, hexec, hresponse, hslot⟩ := exec_pulse_of_result s hbound hfault
  refine ⟨t, hexec, congrArg Response.status hresponse, ?_⟩
  rw [hslot, pulsed_fault]
  exact ⟨rfl, rfl, rfl, toNat_word_succ _, rfl, rfl⟩

/-- Settles O14: on a bound slot by the four results of the table; a slot number from `count` on, or of a slot not in
use, names no bound slot. -/
theorem pulseAppliesTheTableOrAnswersUnbound : Obligations.PulseAppliesTheTableOrAnswersUnbound := by
  unfold Obligations.PulseAppliesTheTableOrAnswersUnbound
  refine ⟨?bound, ?unbound⟩
  case bound =>
    rintro s _ ph j _ rfl hbound rfl
    rw [exec_pulse_of_bound s hbound ph, State.ret_eq]
    cases decodePair (s.slot j).lastPhase ph with
    | fwd => rw [pulsed_fwd]
    | rev => rw [pulsed_rev]
    | noChg => rw [pulsed_noChg]
    | fault => rw [pulsed_fault]
  case unbound =>
    intro s k ph hcase
    have hunbound : ∀ j : SlotId, j.val = k → s.bound j = false := by
      rintro j rfl
      obtain hcount | ⟨i, hi, hunused⟩ := hcase
      · exact s.bound_eq_false_of_unregistered j hcount
      · obtain rfl := Fin.ext hi
        exact s.bound_eq_false_of_not_inUse i hunused
    rw [exec_pulse_of_unbound s hunbound ph, State.raise_eq]

/-- Settles O17: the pair of a phase with itself has the result NOCHG, and the decoder written back is the one held. -/
theorem unchangedPhaseChangesNothing : Obligations.UnchangedPhaseChangesNothing := by
  unfold Obligations.UnchangedPhaseChangesNothing
  intro s j hbound
  have hsame : pulsed .noChg (s.slot j).lastPhase (s.slot j) = s.slot j := rfl
  rw [exec_pulse_of_bound s hbound, decodePair_self, hsame, State.setSlot_slot_self, State.ret_eq]

end Sys2Proof

/-! ### INDEX: the rules of `exec`, and the magnitude of a wrapped difference -/

namespace Sys2Proof.Machine

variable (s : State)

theorem exec_index_of_zBound {j : SlotId} (hz : s.zBound j = true) :
    exec (.index j.val) s = .next ((s.setSlot j (indexed (s.slot j))).ret 0) := by
  have hslot : s.zBoundSlot j.val = some j := (s.zBoundSlot_eq_some j.val j).2 ⟨rfl, hz⟩
  simp only [exec, execIndex, hslot]

theorem exec_index_of_not_zBound {k : Nat} (hno : ∀ j : SlotId, j.val = k → s.zBound j = false) :
    exec (.index k) s = .next (s.raise .unbound) := by
  have hslot : s.zBoundSlot k = none := (s.zBoundSlot_eq_none k).2 hno
  simp only [exec, execIndex, hslot]

theorem State.zBound_eq_false_of_not_bound (k : SlotId) (h : s.bound k = false) : s.zBound k = false := by
  simp only [State.zBound, h, Bool.false_and]

theorem State.zBound_eq_false_of_no_z (k : SlotId) (h : (s.slot k).zPresent = false) : s.zBound k = false := by
  simp only [State.zBound, h, Bool.and_false]

/-- The value INDEX stores: the difference taken exactly, reduced into the signed range, and its magnitude
(spec/42_index.md R161, R166). -/
theorem absU32_sub_toNat (x y : Word) : (absU32 (x - y)).toNat = ((x.toInt - y.toInt).bmod (2 ^ 32)).natAbs := by
  rw [absU32_toNat, BitVec.toInt_sub]

theorem absU32_sub_eq (x y : Word) : absU32 (x - y) = BitVec.ofNat 32 ((x.toInt - y.toInt).bmod (2 ^ 32)).natAbs := by
  rw [absU32, BitVec.toInt_sub]

end Sys2Proof.Machine

namespace Sys2Proof

open Machine

/-- Settles O27: with an index callback by `firstIndexSeen`; a slot number from `count` on, or of a slot not in use or
without a Z pin, names no slot with an index callback. -/
theorem indexStoresTheChangeOrAnswersUnbound : Obligations.IndexStoresTheChangeOrAnswersUnbound := by
  unfold Obligations.IndexStoresTheChangeOrAnswersUnbound
  refine ⟨?callback, ?unbound⟩
  case callback =>
    rintro s _ j _ rfl hz rfl
    rw [exec_index_of_zBound s hz, State.ret_eq]
    constructor
    · intro hfirst
      rw [indexed_first _ hfirst]
    · intro hseen
      rw [indexed_later _ hseen, absU32_sub_eq]
  case unbound =>
    intro s k hcase
    have hno : ∀ j : SlotId, j.val = k → s.zBound j = false := by
      rintro j rfl
      obtain hcount | ⟨i, hi, hunused | hnoZ⟩ := hcase
      · exact s.zBound_eq_false_of_not_bound j (s.bound_eq_false_of_unregistered j hcount)
      · obtain rfl := Fin.ext hi
        exact s.zBound_eq_false_of_not_bound i (s.bound_eq_false_of_not_inUse i hunused)
      · obtain rfl := Fin.ext hi
        exact s.zBound_eq_false_of_no_z i hnoZ
    rw [exec_index_of_not_zBound s hno, State.raise_eq]

end Sys2Proof

/-! ### Sequences of operations: what each operation keeps, the sequence keeps -/

namespace Sys2Proof.Machine

@[simp] theorem execAll_nil (s : State) : execAll [] s = .next s := rfl

theorem execAll_cons_of_next {i : Instr} {s t : State} (h : exec i s = .next t) (is : List Instr) :
    execAll (i :: is) s = execAll is t := by
  simp only [execAll, h]

/-- The induction over a sequence of operations: if every operation of the sequence completes and keeps `P`, so does
the sequence. -/
theorem execAll_keeps {P : State → Prop} {is : List Instr}
    (hstep : ∀ i ∈ is, ∀ s, P s → ∃ t, exec i s = .next t ∧ P t) {s : State} (hs : P s) :
    ∃ t, execAll is s = .next t ∧ P t := by
  induction is generalizing s with
  | nil => exact ⟨s, rfl, hs⟩
  | cons i is ih =>
    obtain ⟨t, hexec, ht⟩ := hstep i List.mem_cons_self s hs
    rw [execAll_cons_of_next hexec]
    exact ih (fun i' hi' => hstep i' (List.mem_cons_of_mem i hi')) ht

end Sys2Proof.Machine

/-! ### Between two index pulses: the snapshot of the first stands until the next INDEX of the same slot -/

namespace Sys2Proof.Machine

/-- A decoder with all three pins that has seen an index pulse, the last one at net count `last`. -/
def Decoder.IndexedAt (d : Decoder) (last : Word) : Prop :=
  d.aValid = true ∧ d.bValid = true ∧ d.zPresent = true ∧ d.firstIndexSeen = true ∧ d.netCountAtLastIndex = last

/-- A registered slot whose decoder saw its last index pulse at net count `last`. -/
def State.IndexedAt (s : State) (j : SlotId) (last : Word) : Prop :=
  j.val < s.count.val ∧ (s.slot j).IndexedAt last

theorem pulsed_indexedAt (r : DecodeResult) (ph : Phase) {d : Decoder} {last : Word} (h : d.IndexedAt last) :
    (pulsed r ph d).IndexedAt last := by
  obtain ⟨hseen, hlast, _, _, ha, hb, hz⟩ := pulsed_frame r ph d
  simpa only [Decoder.IndexedAt, hseen, hlast, ha, hb, hz] using h

section

variable {s : State} {j : SlotId} {last : Word}

theorem State.IndexedAt.zBound (h : s.IndexedAt j last) : s.zBound j = true := by
  obtain ⟨hregistered, ha, hb, hz, _, _⟩ := h
  exact (s.zBound_iff j).2 ⟨(s.bound_iff j).2 ⟨hregistered, ha, hb⟩, hz⟩

/-- An index pulse stores the net count, whether it is the first or a later one. -/
theorem State.indexedAt_after_index (hz : s.zBound j = true) :
    ((s.setSlot j (indexed (s.slot j))).ret 0).IndexedAt j (s.slot j).netCount := by
  obtain ⟨hbound, hzPresent⟩ := (s.zBound_iff j).1 hz
  obtain ⟨hregistered, ha, hb⟩ := (s.bound_iff j).1 hbound
  obtain ⟨hseen', hlast', _, _, _, _, _, _, _, ha', hb', hz'⟩ := indexed_frame (s.slot j)
  refine ⟨hregistered, ?_⟩
  rw [State.ret_slot, State.setSlot_slot, if_pos rfl]
  exact ⟨ha'.trans ha, hb'.trans hb, hz'.trans hzPresent, hseen', hlast'⟩

theorem State.IndexedAt.respond (h : s.IndexedAt j last) (st : Status) (v : Word) : (s.respond st v).IndexedAt j last :=
  h

theorem State.IndexedAt.readSlot (h : s.IndexedAt j last) (n : Nat) (f : Decoder → Word) :
    (s.readSlot n f).IndexedAt j last := by
  obtain ⟨st, v, hread⟩ := s.readSlot_eq n f
  rw [hread]
  exact h.respond st v

/-- A write of one decoder matters only if it is a write of this slot. -/
theorem State.IndexedAt.setSlot (h : s.IndexedAt j last) (k : SlotId) {d : Decoder}
    (hd : k = j → d.IndexedAt last) : (s.setSlot k d).IndexedAt j last := by
  obtain ⟨hregistered, hslot⟩ := h
  refine ⟨hregistered, ?_⟩
  rw [State.setSlot_slot]
  split
  next heq => exact hd heq.symm
  next => exact hslot

theorem State.IndexedAt.pulsed (h : s.IndexedAt j last) (k : SlotId) (r : DecodeResult) (ph : Phase) :
    (s.setSlot k (pulsed r ph (s.slot k))).IndexedAt j last :=
  h.setSlot k fun hk => pulsed_indexedAt r ph (hk ▸ h.2)

theorem State.IndexedAt.clearLatch (h : s.IndexedAt j last) (k : SlotId) : (s.clearLatch k).IndexedAt j last :=
  h.setSlot k fun hk => hk ▸ h.2

theorem State.IndexedAt.transition (h : s.IndexedAt j last) (p n : Phase) (r : DecodeResult) (k : Nat) :
    (s.transition p n r k).IndexedAt j last := by
  obtain ⟨st, heq⟩ | ⟨i, _, _, _, heq⟩ := s.transition_cases p n r k
  · rw [heq]
    exact h.respond st 0
  · rw [heq]
    exact (h.pulsed i r n).respond .ok 0

/-- REGISTER constructs a slot that is not registered yet, so not this one (spec/44_registry.md R191). -/
theorem State.IndexedAt.assign (h : s.IndexedAt j last) {k : SlotId} (hk : k.val = s.count.val) (d : Decoder) :
    (s.assign k d).IndexedAt j last := by
  obtain ⟨hregistered, hslot⟩ := h
  have hne : j ≠ k := by
    rintro rfl
    omega
  refine ⟨?_, ?_⟩
  · rw [s.assign_count_val hk d]
    omega
  · rw [State.assign_slot, if_neg hne]
    exact hslot

/-- Only INDEX of the slot itself takes a new snapshot (spec/42_index.md R161): every other operation completes and
leaves the last one standing. -/
theorem exec_keeps_indexedAt {i : Instr} (hi : i ≠ .index j.val) (h : s.IndexedAt j last) :
    ∃ t, exec i s = .next t ∧ t.IndexedAt j last := by
  cases i with
  | nop => exact ⟨_, rfl, h.respond .ok 0⟩
  | register ppr av bv zp ph0 =>
    simp only [exec, execRegister]
    split
    next => exact ⟨_, rfl, h.respond .configCapacity 0⟩
    next k hfree => exact ⟨_, rfl, (h.assign ((s.freeSlot_eq_some k).1 hfree) _).respond _ _⟩
  | pulse k ph =>
    simp only [exec, execPulse]
    split
    next => exact ⟨_, rfl, h.respond .unbound 0⟩
    next i _ => exact ⟨_, rfl, (h.pulsed i _ ph).respond .ok 0⟩
  | index k =>
    simp only [exec, execIndex]
    split
    next => exact ⟨_, rfl, h.respond .unbound 0⟩
    next i hslot =>
      obtain ⟨rfl, _⟩ := (s.zBoundSlot_eq_some k i).1 hslot
      have hother : i ≠ j := fun hij => hi (hij ▸ rfl)
      exact ⟨_, rfl, (h.setSlot i fun hij => absurd hij hother).respond .ok 0⟩
  | cfault n =>
    simp only [exec, execCfault]
    split
    next st _ => exact ⟨_, rfl, h.respond st 0⟩
    next k _ =>
      split
      next => exact ⟨_, rfl, (h.clearLatch k).respond .ok _⟩
      next => exact ⟨s.splitReadLatch k, rfl, h⟩
  | rdnet n | rdppr n | inuse n | rdfwd n | rdrev n | rdflt n => exact ⟨_, rfl, h.readSlot n _⟩
  | trans00 k | trans01 k | trans02 k | trans03 k | trans10 k | trans11 k | trans12 k | trans13 k
  | trans20 k | trans21 k | trans22 k | trans23 k | trans30 k | trans31 k | trans32 k | trans33 k =>
    exact ⟨_, rfl, h.transition _ _ _ k⟩

/-- A later index pulse measures against the snapshot that stands. -/
theorem State.IndexedAt.calcPPR_after_index (h : s.IndexedAt j last) :
    (((s.setSlot j (indexed (s.slot j))).ret 0).slot j).calcPPR = absU32 ((s.slot j).netCount - last) := by
  obtain ⟨_, _, _, _, hseen, hlast⟩ := h
  rw [State.ret_slot, State.setSlot_slot, if_pos rfl, indexed_later _ hseen, hlast]

end

end Sys2Proof.Machine

namespace Sys2Proof

open Machine

/-- Settles O29: the first INDEX leaves a snapshot of the net count, every operation between keeps it, and the second
INDEX measures against it. -/
theorem indexMeasuresTheChangeSinceThePreviousIndex : Obligations.IndexMeasuresTheChangeSinceThePreviousIndex := by
  unfold Obligations.IndexMeasuresTheChangeSinceThePreviousIndex
  intro s j between hz hother
  have hsnapshot := State.indexedAt_after_index hz
  obtain ⟨s2, hbetween, hs2⟩ := execAll_keeps (fun i hi _ => exec_keeps_indexedAt (hother i hi)) hsnapshot
  refine ⟨_, s2, _, exec_index_of_zBound s hz, hbetween, exec_index_of_zBound s2 hs2.zBound, ?first, ?net, ?change⟩
  case first =>
    intro hfirst
    rw [State.ret_slot, State.setSlot_slot, if_pos rfl, indexed_first _ hfirst]
  case net =>
    obtain ⟨_, _, _, hnet, _⟩ := indexed_frame (s.slot j)
    rw [State.ret_slot, State.setSlot_slot, if_pos rfl, hnet]
  case change => rw [hs2.calcPPR_after_index, absU32_sub_toNat]

end Sys2Proof

/-! ### Reads: the rules of `exec`, and a read of a value that is zero -/

namespace Sys2Proof.Machine

section

variable (s : State) (i : Nat)

theorem exec_rdnet : exec (.rdnet i) s = .next (s.readSlot i (·.netCount)) := rfl

theorem exec_rdppr : exec (.rdppr i) s = .next (s.readSlot i (·.calcPPR)) := rfl

theorem exec_inuse : exec (.inuse i) s = .next (s.readSlot i fun d => zextBool d.inUse) := rfl

theorem exec_rdfwd : exec (.rdfwd i) s = .next (s.readSlot i (·.forwardCount)) := rfl

theorem exec_rdrev : exec (.rdrev i) s = .next (s.readSlot i (·.reverseCount)) := rfl

theorem exec_rdflt : exec (.rdflt i) s = .next (s.readSlot i (·.faultCount)) := rfl

end

@[simp] theorem zextBool_false : zextBool false = 0 := rfl

theorem zextBool_eq (b : Bool) : zextBool b = if b = true then 1 else 0 := rfl

section

variable {s : State} {i : Nat}

theorem State.readSlot_of_value {k : SlotId} (hk : s.resolve i = .ok k) {f : Decoder → Word} {v : Word}
    (hv : f (s.slot k) = v) : s.readSlot i f = s.respond .ok v := by
  rw [s.readSlot_of_ok f hk, hv, State.ret_eq]

/-! ### CFAULT: the rules of `exec` -/

theorem exec_cfault_of_error {st : Status} (hst : s.resolve i = .error st) :
    exec (.cfault i) s = .next (s.raise st) := by
  simp only [exec, execCfault, hst]

theorem exec_cfault_of_atomic {k : SlotId} (hatomic : s.params.consumeAtomic = true) (hk : s.resolve i = .ok k) :
    exec (.cfault i) s = .next ((s.clearLatch k).ret (zextBool (s.slot k).faultLatch)) := by
  simp only [exec, execCfault, hk, hatomic, if_true]

theorem exec_cfault_of_split {k : SlotId} (hsplit : s.params.consumeAtomic = false) (hk : s.resolve i = .ok k) :
    exec (.cfault i) s = .next (s.splitReadLatch k) := by
  simp only [exec, execCfault, hk, hsplit, Bool.false_eq_true, if_false]

/-- The clear is unconditional (spec/43_read.md R172), and on a latch that is not set it writes back what is there. -/
theorem State.clearLatch_of_clear {k : SlotId} (hlatch : (s.slot k).faultLatch = false) : s.clearLatch k = s := by
  have hsame : { s.slot k with faultLatch := false } = s.slot k := by rw [← hlatch]
  rw [State.clearLatch, hsame, State.setSlot_slot_self]

/-- A slot that is not in use is not bound, so in a reachable state it has never counted (spec/10_state.md R43). -/
theorem State.Inv.atConstruction_of_not_inUse (hinv : s.Inv) {k : SlotId} (hunused : (s.slot k).inUse = false) :
    (s.slot k).AtConstruction :=
  hinv.unbound k (s.bound_eq_false_of_not_inUse k hunused)

end

end Sys2Proof.Machine

namespace Sys2Proof

open Machine

/-- Settles O34: the invariant leaves an unused slot at its construction values, so each read finds a zero field and
CFAULT a latch that is clear already. -/
theorem slotNotInUseReadsZero : Obligations.SlotNotInUseReadsZero := by
  unfold Obligations.SlotNotInUseReadsZero
  intro s i k hinv hk hunused
  obtain ⟨_, hnet, hfwd, hrev, hflt, hlatch, _, _, hppr⟩ := hinv.atConstruction_of_not_inUse hunused
  have hinuse : zextBool (s.slot k).inUse = 0 := by rw [hunused, zextBool_false]
  refine ⟨?rdnet, ?rdppr, ?inuse, ?rdfwd, ?rdrev, ?rdflt, ?atomic, ?split⟩
  case rdnet => rw [exec_rdnet, State.readSlot_of_value hk hnet]
  case rdppr => rw [exec_rdppr, State.readSlot_of_value hk hppr]
  case inuse => rw [exec_inuse, State.readSlot_of_value hk hinuse]
  case rdfwd => rw [exec_rdfwd, State.readSlot_of_value hk hfwd]
  case rdrev => rw [exec_rdrev, State.readSlot_of_value hk hrev]
  case rdflt => rw [exec_rdflt, State.readSlot_of_value hk hflt]
  case atomic =>
    intro hatomic
    rw [exec_cfault_of_atomic hatomic hk, State.clearLatch_of_clear hlatch, hlatch, zextBool_false, State.ret_eq]
  case split =>
    intro hsplit
    rw [exec_cfault_of_split hsplit hk, State.splitReadLatch, hlatch]

/-- The fields of a slot command word as a number: `OP` counts from bit 12, `SLOT` from bit 10 (spec/30_encoding.md
R111). -/
theorem packSlot_eq_ofNat (op : BitVec 4) {k : Nat} (hk : k < 4) :
    packSlot op k = BitVec.ofNat 16 (0x1000 * op.toNat + 0x400 * k) := by
  have hfields : ∀ (op : BitVec 4) (k : Fin 4),
      packSlot op k.val = BitVec.ofNat 16 (0x1000 * op.toNat + 0x400 * k.val) := by decide
  exact hfields op ⟨k, hk⟩

theorem encode_cfault (i : Nat) : encode (.cfault i) = .cmd (packSlot 0x5#4 i) 0 := rfl

/-- Settles O35: by whether the index resolves, and by the fields of the command word. -/
theorem atomicConsumeReturnsAndClearsTheLatch : Obligations.AtomicConsumeReturnsAndClearsTheLatch := by
  unfold Obligations.AtomicConsumeReturnsAndClearsTheLatch
  refine ⟨?resolved, ?unresolved, ?word⟩
  case resolved =>
    intro s i k hatomic hk
    rw [exec_cfault_of_atomic hatomic hk, State.clearLatch, State.ret_eq, zextBool_eq]
  case unresolved =>
    intro s i st hst
    rw [exec_cfault_of_error hst, State.raise_eq]
  case word =>
    intro i hi
    rw [encode_cfault, packSlot_eq_ofNat 0x5#4 hi]
    rfl

end Sys2Proof

/-! ### The registry: how a read index resolves when it names no registered slot, and REGISTER with no free slot -/

namespace Sys2Proof.Machine

section

variable {s : State} {i : Nat}

/-- `count` is at most `NUM_SLOTS`, so every number below it names a slot (spec/10_state.md R30). -/
theorem State.exists_slot_of_lt_count {n : Nat} (hn : n < s.count.val) : ∃ k : SlotId, k.val = n :=
  ⟨⟨n, by omega⟩, rfl⟩

/-- The wrapped index is below `count`, so taking it as a slot number loses nothing. -/
theorem State.resolve_of_wrap {k : SlotId} (hk : k.val = i % s.count.val) (hpos : 0 < s.count.val)
    (hi : s.count.val ≤ i) (hpolicy : s.params.oorPolicy = .wrap) : s.resolve i = .ok k := by
  have hslot : Fin.ofNat 3 (i % s.count.val) = k := by rw [← hk, Fin.ofNat_val_eq_self]
  simp only [State.resolve, if_neg hpos.ne', if_neg hi.not_gt, hpolicy, hslot]

theorem State.resolve_of_fault (hpos : 0 < s.count.val) (hi : s.count.val ≤ i)
    (hpolicy : s.params.oorPolicy = .fault) : s.resolve i = .error .indexRange := by
  simp only [State.resolve, if_neg hpos.ne', if_neg hi.not_gt, hpolicy]

theorem exec_register_of_full (hfull : s.count = 3) (ppr : Word) (av bv zp : Bool) (ph0 : Phase) :
    exec (.register ppr av bv zp ph0) s = .next (s.raise .configCapacity) := by
  have hfree : s.freeSlot = none := s.freeSlot_eq_none.2 hfull
  simp only [exec, execRegister, hfree]

end

end Sys2Proof.Machine

namespace Sys2Proof

open Machine

/-- Settles O30: by the branches of `Resolve`; an index that is registered, and one that wraps, is below `count` and so
names a slot. -/
theorem readIndexResolution : Obligations.ReadIndexResolution := by
  unfold Obligations.ReadIndexResolution
  intro s i
  refine ⟨s.resolve_empty i, ?registered, ?wrap, State.resolve_of_fault⟩
  case registered =>
    intro hi
    obtain ⟨k, hk⟩ := State.exists_slot_of_lt_count hi
    exact ⟨k, s.resolve_registered hk hi, hk⟩
  case wrap =>
    intro hpos hi hpolicy
    obtain ⟨k, hk⟩ := State.exists_slot_of_lt_count (Nat.mod_lt i hpos)
    exact ⟨k, State.resolve_of_wrap hk hpos hi hpolicy, hk⟩

/-- Settles O43: a full registry has no free slot, and the branch of REGISTER without one reads no operand. -/
theorem registerOnAFullRegistryChangesNothing : Obligations.RegisterOnAFullRegistryChangesNothing := by
  unfold Obligations.RegisterOnAFullRegistryChangesNothing
  intro s ppr av bv zp ph0 hfull
  rw [exec_register_of_full hfull, State.raise_eq]

end Sys2Proof

/-! ### One action for each operation: which slot it concerns, and what it reads -/

namespace Sys2Proof.Machine

/-- What one operation does to a state: the six effects of `Effect`, as functions of the state they are run on. -/
inductive Action where
  /-- only a response -/
  | respond (st : Status) (v : Word)
  /-- a table transition of slot `k` -/
  | pulse (k : SlotId) (r : DecodeResult) (ph : Phase)
  /-- an index pulse of slot `k` -/
  | index (k : SlotId)
  /-- an atomic CFAULT of slot `k` -/
  | consume (k : SlotId)
  /-- the read step of a split CFAULT of slot `k` -/
  | readLatch (k : SlotId)
  /-- slot `k` is assigned and holds `d` -/
  | assign (k : SlotId) (d : Decoder) (st : Status)

/-- The state an action leads to. -/
def Action.run (a : Action) (s : State) : State :=
  match a with
  | .respond st v => s.respond st v
  | .pulse k r ph => (s.setSlot k (pulsed r ph (s.slot k))).ret 0
  | .index k => (s.setSlot k (indexed (s.slot k))).ret 0
  | .consume k => (s.clearLatch k).ret (zextBool (s.slot k).faultLatch)
  | .readLatch k => s.splitReadLatch k
  | .assign k d st => (s.assign k d).respond st (zextSlot k)

/-- The actions that the operation `i` may take in `s`, each with what it says about `i` and `s`. -/
inductive Acts (i : Instr) (s : State) : Action → Prop where
  | respond (st : Status) (v : Word) : Acts i s (.respond st v)
  | pulse {k : SlotId} (r : DecodeResult) (ph : Phase) (hi : i.context = .interrupt)
      (htarget : targetSlot i s = some k) (hbound : s.bound k = true) : Acts i s (.pulse k r ph)
  | index {k : SlotId} (hi : i = .index k.val) (hz : s.zBound k = true) : Acts i s (.index k)
  | consume {k : SlotId} {n : Nat} (hi : i = .cfault n) (hk : s.resolve n = .ok k)
      (hatomic : s.params.consumeAtomic = true) : Acts i s (.consume k)
  | readLatch {k : SlotId} {n : Nat} (hi : i = .cfault n) (hk : s.resolve n = .ok k)
      (hsplit : s.params.consumeAtomic = false) : Acts i s (.readLatch k)
  | assign {k : SlotId} (hi : i.context = .setup) (htarget : targetSlot i s = some k) (hk : k.val = s.count.val)
      (ppr : Word) (av bv zp : Bool) (ph : Phase) (st : Status) :
      Acts i s (.assign k (constructed ppr av bv zp ph) st)

/-- `u` agrees with `s` on everything that an operation with target `o` reads: the slot count, the parameters, the pins
and the target slot. -/
structure State.AgreesOn (s u : State) (o : Option SlotId) : Prop where
  count : u.count = s.count
  params : u.params = s.params
  pins : u.pins = s.pins
  slot : ∀ j, o = some j → u.slot j = s.slot j

theorem State.AgreesOn.refl (s : State) (o : Option SlotId) : s.AgreesOn s o := ⟨rfl, rfl, rfl, fun _ _ => rfl⟩

section

variable {s u : State}

theorem State.bound_congr {j : SlotId} (hcount : u.count = s.count) (hslot : u.slot j = s.slot j) :
    u.bound j = s.bound j := by
  simp only [State.bound, hcount, hslot]

theorem State.zBound_congr {j : SlotId} (hcount : u.count = s.count) (hslot : u.slot j = s.slot j) :
    u.zBound j = s.zBound j := by
  simp only [State.zBound, State.bound_congr hcount hslot, hslot]

theorem State.AgreesOn.boundSlot {k : Nat} (h : s.AgreesOn u (slotOf k)) : u.boundSlot k = s.boundSlot k := by
  unfold State.boundSlot
  cases hj : slotOf k with
  | none => rfl
  | some j => rw [Option.filter_some, Option.filter_some, State.bound_congr h.count (h.slot j hj)]

theorem State.AgreesOn.zBoundSlot {k : Nat} (h : s.AgreesOn u (slotOf k)) : u.zBoundSlot k = s.zBoundSlot k := by
  unfold State.zBoundSlot
  cases hj : slotOf k with
  | none => rfl
  | some j => rw [Option.filter_some, Option.filter_some, State.zBound_congr h.count (h.slot j hj)]

theorem State.resolve_congr (hcount : u.count = s.count) (hparams : u.params = s.params) (n : Nat) :
    u.resolve n = s.resolve n := by
  simp only [State.resolve, hcount, hparams]

/-- A slot operand that has a bound slot names that slot. -/
theorem slotOf_of_boundSlot {k : Nat} {j : SlotId} (hslot : s.boundSlot k = some j) : slotOf k = some j :=
  (slotOf_eq_some k j).2 ((s.boundSlot_eq_some k j).1 hslot).1

end

variable (s : State)

/-- An operation that is a non-destructive read reads the slot count, the policy and the slot its index resolves to. -/
theorem readSlot_local {i : Instr} {n : Nat} {f : Decoder → Word} (hexec : ∀ u, exec i u = .next (u.readSlot n f))
    (htarget : targetSlot i s = (s.resolve n).toOption) :
    ∃ a, Acts i s a ∧ ∀ u, s.AgreesOn u (targetSlot i s) → exec i u = .next (a.run u) := by
  rw [htarget]
  cases hk : s.resolve n with
  | error st =>
    refine ⟨.respond st 0, .respond _ _, fun u h => ?_⟩
    rw [hexec, u.readSlot_of_error f ((State.resolve_congr h.count h.params n).trans hk)]
    rfl
  | ok k =>
    refine ⟨.respond .ok (f (s.slot k)), .respond _ _, fun u h => ?_⟩
    rw [hexec, u.readSlot_of_ok f ((State.resolve_congr h.count h.params n).trans hk), h.slot k rfl]
    rfl

/-- An operation that is a table transition reads the slot its operand names. -/
theorem transition_local {i : Instr} {k : Nat} {p n : Phase} {r : DecodeResult}
    (hexec : ∀ u, exec i u = .next (u.transition p n r k)) (hi : i.context = .interrupt)
    (htarget : targetSlot i s = slotOf k) :
    ∃ a, Acts i s a ∧ ∀ u, s.AgreesOn u (targetSlot i s) → exec i u = .next (a.run u) := by
  rw [htarget]
  cases hslot : s.boundSlot k with
  | none =>
    refine ⟨.respond .unbound 0, .respond _ _, fun u h => ?_⟩
    simp only [hexec, State.transition, h.boundSlot, hslot]
    rfl
  | some j =>
    have hj := slotOf_of_boundSlot hslot
    have hbound := ((s.boundSlot_eq_some k j).1 hslot).2
    by_cases hp : (s.slot j).lastPhase = p
    · refine ⟨.pulse j r n, .pulse r n hi (htarget.trans hj) hbound, fun u h => ?_⟩
      simp only [hexec, State.transition, h.boundSlot, hslot, h.slot j hj, hp, if_true, Action.run]
    · refine ⟨.respond .ok 0, .respond _ _, fun u h => ?_⟩
      simp only [hexec, State.transition, h.boundSlot, hslot, h.slot j hj, hp, if_false]
      rfl

/-- Inversion and locality of `exec` in one: every operation takes one of the six actions, and takes the same action in
every state that agrees on what the operation reads (spec/10_state.md R36). -/
theorem exec_local (i : Instr) :
    ∃ a, Acts i s a ∧ ∀ u, s.AgreesOn u (targetSlot i s) → exec i u = .next (a.run u) := by
  cases i with
  | nop => exact ⟨.respond .ok 0, .respond _ _, fun u _ => rfl⟩
  | register ppr av bv zp ph0 =>
    cases hfree : s.freeSlot with
    | none =>
      refine ⟨.respond .configCapacity 0, .respond _ _, fun u h => ?_⟩
      exact exec_register_of_full (h.count.trans (s.freeSlot_eq_none.1 hfree)) ppr av bv zp ph0
    | some k =>
      have hk := (s.freeSlot_eq_some k).1 hfree
      have hacts := Acts.assign (i := .register ppr av bv zp ph0) rfl hfree hk ppr av bv zp (s.initialPhase k ph0)
        (if av = true ∧ bv = true then .ok else .configPins)
      refine ⟨_, hacts, fun u h => ?_⟩
      have hphase : u.initialPhase k ph0 = s.initialPhase k ph0 := by
        simp only [State.initialPhase, h.params, h.pins]
      rw [exec_register_of_free u (hk.trans (congrArg Fin.val h.count.symm)), hphase]
      rfl
  | pulse k ph =>
    cases hslot : s.boundSlot k with
    | none =>
      refine ⟨.respond .unbound 0, .respond _ _, fun u h => ?_⟩
      simp only [exec, execPulse, State.AgreesOn.boundSlot h, hslot]
      rfl
    | some j =>
      have hj := slotOf_of_boundSlot hslot
      have hbound := ((s.boundSlot_eq_some k j).1 hslot).2
      refine ⟨.pulse j (s.pulseResult j ph) ph, .pulse _ _ rfl hj hbound, fun u h => ?_⟩
      simp only [exec, execPulse, State.AgreesOn.boundSlot h, hslot, Action.run, State.pulseResult, h.slot j hj]
  | index k =>
    cases hslot : s.zBoundSlot k with
    | none =>
      refine ⟨.respond .unbound 0, .respond _ _, fun u h => ?_⟩
      simp only [exec, execIndex, State.AgreesOn.zBoundSlot h, hslot]
      rfl
    | some j =>
      obtain ⟨rfl, hz⟩ := (s.zBoundSlot_eq_some k j).1 hslot
      refine ⟨.index j, .index rfl hz, fun u h => ?_⟩
      simp only [exec, execIndex, State.AgreesOn.zBoundSlot h, hslot, Action.run]
  | cfault n =>
    cases hk : s.resolve n with
    | error st =>
      refine ⟨.respond st 0, .respond _ _, fun u h => ?_⟩
      exact exec_cfault_of_error ((State.resolve_congr h.count h.params n).trans hk)
    | ok k =>
      cases hatomic : s.params.consumeAtomic with
      | true =>
        refine ⟨.consume k, .consume rfl hk hatomic, fun u h => ?_⟩
        exact exec_cfault_of_atomic ((congrArg _ h.params).trans hatomic)
          ((State.resolve_congr h.count h.params n).trans hk)
      | false =>
        refine ⟨.readLatch k, .readLatch rfl hk hatomic, fun u h => ?_⟩
        exact exec_cfault_of_split ((congrArg _ h.params).trans hatomic)
          ((State.resolve_congr h.count h.params n).trans hk)
  | rdnet n | rdppr n | inuse n | rdfwd n | rdrev n | rdflt n =>
    exact readSlot_local s (fun _ => rfl) rfl
  | trans00 k | trans01 k | trans02 k | trans03 k | trans10 k | trans11 k | trans12 k | trans13 k
  | trans20 k | trans21 k | trans22 k | trans23 k | trans30 k | trans31 k | trans32 k | trans33 k =>
    exact transition_local s (fun _ => rfl) rfl rfl

/-- Every operation completes with one of its actions. -/
theorem exec_acts (i : Instr) : ∃ a, Acts i s a ∧ exec i s = .next (a.run s) := by
  obtain ⟨a, hacts, hrun⟩ := exec_local s i
  exact ⟨a, hacts, hrun s (.refl s _)⟩

/-- What an operation led to is what one of its actions leads to. -/
theorem exists_acts_of_exec {i : Instr} {s t : State} (h : exec i s = .next t) : ∃ a, Acts i s a ∧ t = a.run s := by
  obtain ⟨a, hacts, hrun⟩ := exec_acts s i
  rw [h] at hrun
  cases hrun
  exact ⟨a, hacts, rfl⟩

end Sys2Proof.Machine

/-! ### Actions at one slot: the frame, and what a write depends on -/

namespace Sys2Proof.Machine

/-- The slot an action writes. -/
def Action.slot? (a : Action) : Option SlotId :=
  match a with
  | .respond _ _ => none
  | .pulse k _ _ => some k
  | .index k => some k
  | .consume k => some k
  | .readLatch k => some k
  | .assign k _ _ => some k

/-- What the state holds for slot `j` and an operation may write: its decoder and its split CFAULT. -/
def State.lane (s : State) (j : SlotId) : Decoder × SplitRead := (s.slot j, s.split.get j)

theorem State.lane_eq_iff {s u : State} {j : SlotId} :
    s.lane j = u.lane j ↔ s.slot j = u.slot j ∧ s.split.get j = u.split.get j :=
  Prod.mk_inj

/-- An action writes the slot that its operation is given, or none. -/
theorem Acts.slot? {i : Instr} {s : State} {a : Action} (h : Acts i s a) {k : SlotId} (hk : a.slot? = some k) :
    targetSlot i s = some k := by
  cases h with
  | respond st v => cases hk
  | pulse r ph _ htarget _ => cases hk; exact htarget
  | index hi _ => cases hk; subst hi; exact slotOf_val k
  | consume hi hn _ | readLatch hi hn _ =>
    cases hk; subst hi
    simp only [targetSlot, hn, Except.toOption]
  | assign _ htarget => cases hk; exact htarget

/-- Only REGISTER assigns a slot. -/
theorem Acts.ne_assign {i : Instr} {s : State} {a : Action} (h : Acts i s a) (hi : i.context ≠ .setup)
    (k : SlotId) (d : Decoder) (st : Status) : a ≠ .assign k d st := by
  rintro rfl
  cases h with
  | assign hsetup => exact hi hsetup

/-- A CFAULT is split only where `CONSUME_ATOMIC` is false. -/
theorem Acts.ne_readLatch {i : Instr} {s : State} {a : Action} (h : Acts i s a)
    (hatomic : s.params.consumeAtomic = true) (k : SlotId) : a ≠ .readLatch k := by
  rintro rfl
  cases h with
  | readLatch _ _ hsplit => rw [hatomic] at hsplit; cases hsplit

section

variable (a : Action) (s : State)

theorem Action.run_params : (a.run s).params = s.params := by
  cases a with
  | respond | pulse | index | consume | readLatch | assign => rfl

theorem Action.run_pins : (a.run s).pins = s.pins := by
  cases a with
  | respond | pulse | index | consume | readLatch | assign => rfl

theorem Action.run_inputs : (a.run s).inputs = s.inputs := by
  cases a with
  | respond | pulse | index | consume | readLatch | assign => rfl

variable {a s}

/-- An action leaves every slot but its own as it was (spec/10_state.md R36). -/
theorem Action.run_lane_other {j : SlotId} (hj : a.slot? ≠ some j) : (a.run s).lane j = s.lane j := by
  have hne (k : SlotId) (hk : a.slot? = some k) : j ≠ k := fun h => hj (h ▸ hk)
  rw [State.lane_eq_iff]
  cases a with
  | respond st v => exact ⟨rfl, rfl⟩
  | pulse k r ph | index k | consume k => exact ⟨Bank.get_set_ne _ _ (hne k rfl), rfl⟩
  | readLatch k => exact ⟨rfl, Bank.get_set_ne _ _ (hne k rfl)⟩
  | assign k d st => exact ⟨Bank.get_set_ne _ _ (hne k rfl), rfl⟩

theorem Action.run_slot_other {j : SlotId} (hj : a.slot? ≠ some j) : (a.run s).slot j = s.slot j :=
  (State.lane_eq_iff.1 (run_lane_other hj)).1

theorem Action.run_split_other {j : SlotId} (hj : a.slot? ≠ some j) : (a.run s).split.get j = s.split.get j :=
  (State.lane_eq_iff.1 (run_lane_other hj)).2

/-- What an action leaves at a slot depends on what the state held for that slot only. -/
theorem Action.run_lane_congr {u : State} {j : SlotId} (h : u.lane j = s.lane j) :
    (a.run u).lane j = (a.run s).lane j := by
  by_cases hj : a.slot? = some j
  · obtain ⟨hslot, hsplit⟩ := State.lane_eq_iff.1 h
    rw [State.lane_eq_iff]
    cases a with
    | respond st v => exact ⟨hslot, hsplit⟩
    | pulse k r ph | index k | consume k =>
      cases hj
      simp [Action.run, State.clearLatch, hslot, hsplit]
    | readLatch k =>
      cases hj
      simp [Action.run, State.splitReadLatch, hslot]
    | assign k d st =>
      cases hj
      simp [Action.run, hsplit]
  · rw [run_lane_other hj, run_lane_other hj, h]

/-- The slot count and the pending bits are written by an assignment only. -/
theorem Action.run_registry (ha : ∀ k d st, a ≠ .assign k d st) :
    (a.run s).count = s.count ∧ (a.run s).pending = s.pending := by
  cases a with
  | respond | pulse | index | consume | readLatch => exact ⟨rfl, rfl⟩
  | assign k d st => exact absurd rfl (ha k d st)

theorem Action.run_count_congr {u : State} (h : u.count = s.count) : (a.run u).count = (a.run s).count := by
  cases a with
  | respond | pulse | index | consume | readLatch => exact h
  | assign k d st => simp [Action.run, State.assign, h]

/-- The response of an action that has one depends on the action's slot only. -/
theorem Action.run_response_congr {u : State} (ha : ∀ k, a ≠ .readLatch k)
    (h : ∀ k, a.slot? = some k → u.slot k = s.slot k) : (a.run u).response = (a.run s).response := by
  cases a with
  | respond | pulse | index | assign => rfl
  | consume k => simp [Action.run, h k rfl]
  | readLatch k => exact absurd rfl (ha k)

/-- The read step of a split CFAULT has no response yet (spec/43_read.md R174). -/
theorem Action.run_readLatch_response (k : SlotId) : ((Action.readLatch k).run s).response = s.response := rfl

end

/-- Two banks with the same three items are equal. -/
theorem Bank.eq_of_get_eq {α : Type} {b c : Bank α} (h : ∀ k, b.get k = c.get k) : b = c := by
  obtain ⟨b0, b1, b2⟩ := b
  obtain ⟨c0, c1, c2⟩ := c
  exact Bank.mk.injEq .. ▸ ⟨h 0, h 1, h 2⟩

/-- States that hold the same for every slot, and agree on what belongs to no slot, differ in the response only. -/
theorem State.respond_eq_of_lanes {s u : State} (hcount : s.count = u.count) (hpins : s.pins = u.pins)
    (hpending : s.pending = u.pending) (hparams : s.params = u.params) (hinputs : s.inputs = u.inputs)
    (hlane : ∀ j, s.lane j = u.lane j) (st : Status) (v : Word) : s.respond st v = u.respond st v := by
  have hslots : s.slots = u.slots := Bank.eq_of_get_eq fun j => (State.lane_eq_iff.1 (hlane j)).1
  have hsplit : s.split = u.split := Bank.eq_of_get_eq fun j => (State.lane_eq_iff.1 (hlane j)).2
  simp only [State.respond, hcount, hslots, hpins, hpending, hsplit, hparams, hinputs]

/-- Two actions commute at a slot that the first of them does not write. -/
theorem Action.run_comm_lane {a b : Action} (s : State) {j : SlotId} (hj : a.slot? ≠ some j) :
    (a.run (b.run s)).lane j = (b.run (a.run s)).lane j := by
  rw [run_lane_other hj, run_lane_congr (run_lane_other hj)]

/-! ### What an operation does to one registered slot -/

/-- What an operation `i` may leave in the registered slot `k`. -/
inductive SlotChange (i : Instr) (s : State) (k : SlotId) : Decoder → Prop where
  | same : SlotChange i s k (s.slot k)
  | pulsed (r : DecodeResult) (ph : Phase) (hi : i.context = .interrupt) : SlotChange i s k (pulsed r ph (s.slot k))
  | indexed (hi : i = .index k.val) : SlotChange i s k (indexed (s.slot k))
  | consumed (hatomic : s.params.consumeAtomic = true) {n : Nat} (hi : i = .cfault n) (hk : s.resolve n = .ok k) :
      SlotChange i s k { s.slot k with faultLatch := false }

/-- REGISTER constructs a slot that is not registered yet, so a registered slot is left to the other operations. -/
theorem exec_slotChange {i : Instr} {s t : State} {k : SlotId} (hk : k.val < s.count.val) (h : exec i s = .next t) :
    SlotChange i s k (t.slot k) := by
  obtain ⟨a, hacts, rfl⟩ := exists_acts_of_exec h
  by_cases hslot : a.slot? = some k
  case neg =>
    rw [Action.run_slot_other hslot]
    exact .same
  case pos =>
    cases hacts with
    | respond st v => cases hslot
    | pulse r ph hi _ _ =>
      cases hslot
      rw [Action.run, State.ret_slot, State.setSlot_slot, if_pos rfl]
      exact .pulsed r ph hi
    | index hi _ =>
      cases hslot
      rw [Action.run, State.ret_slot, State.setSlot_slot, if_pos rfl]
      exact .indexed hi
    | consume hi hn hatomic =>
      cases hslot
      rw [Action.run, State.ret_slot, State.clearLatch, State.setSlot_slot, if_pos rfl]
      exact .consumed hatomic hi hn
    | readLatch => exact .same
    | assign _ _ hfree =>
      cases hslot
      omega

end Sys2Proof.Machine

namespace Sys2Proof

open Machine

/-- Settles O56: an action writes its own slot only, and that slot is the operation's target. -/
theorem operationWritesOnlyItsOwnSlot : Obligations.OperationWritesOnlyItsOwnSlot := by
  unfold Obligations.OperationWritesOnlyItsOwnSlot
  intro i s t hexec
  obtain ⟨a, hacts, rfl⟩ := exists_acts_of_exec hexec
  refine ⟨fun j hj => ?_, a.run_params s, a.run_pins s, a.run_inputs s⟩
  exact State.lane_eq_iff.1 (Action.run_lane_other fun hslot => hj (hacts.slot? hslot))

/-- Settles O57: in both states the operation takes the same action, and what an action leaves depends on its own slot
only. -/
theorem operationReadsOnlyItsOwnSlot : Obligations.OperationReadsOnlyItsOwnSlot := by
  unfold Obligations.OperationReadsOnlyItsOwnSlot
  intro i s u t hcount hparams hpins hsplit hresponse hslot hexec
  obtain ⟨a, hacts, hrun⟩ := exec_local s i
  obtain rfl : a.run s = t := by simpa [hrun s (.refl s _)] using hexec
  have hlane (j : SlotId) (hj : targetSlot i s = some j) : u.lane j = s.lane j := by
    rw [State.lane_eq_iff, hslot j hj, hsplit]
    exact ⟨rfl, rfl⟩
  refine ⟨a.run u, hrun u ⟨hcount.symm, hparams.symm, hpins.symm, fun j hj => (hslot j hj).symm⟩, ?slot,
    Action.run_count_congr hcount.symm, ?split, ?response⟩
  case slot =>
    intro j hj
    exact (State.lane_eq_iff.1 (Action.run_lane_congr (hlane j hj))).1
  case split =>
    refine Bank.eq_of_get_eq fun j => ?_
    by_cases hj : a.slot? = some j
    · exact (State.lane_eq_iff.1 (Action.run_lane_congr (hlane j (hacts.slot? hj)))).2
    · rw [Action.run_split_other hj, Action.run_split_other hj, hsplit]
  case response =>
    by_cases hread : ∃ k, a = .readLatch k
    · obtain ⟨k, rfl⟩ := hread
      rw [Action.run_readLatch_response, Action.run_readLatch_response, hresponse]
    · exact Action.run_response_congr (fun k hk => hread ⟨k, hk⟩) fun k hk => (hslot k (hacts.slot? hk)).symm

/-- Settles O58: neither action writes what the other reads, so each is taken in either order, and at every slot one of
the two writes nothing. -/
theorem operationsOnDifferentSlotsCommute : Obligations.OperationsOnDifferentSlotsCommute := by
  unfold Obligations.OperationsOnDifferentSlotsCommute
  intro i1 i2 s k1 k2 hsetup1 hsetup2 htarget1 htarget2 hne
  obtain ⟨a1, hacts1, hrun1⟩ := exec_local s i1
  obtain ⟨a2, hacts2, hrun2⟩ := exec_local s i2
  rw [htarget1] at hrun1
  rw [htarget2] at hrun2
  have hslot1 {j : SlotId} (hj : a1.slot? = some j) : j = k1 :=
    Option.some_inj.1 ((hacts1.slot? hj).symm.trans htarget1)
  have hslot2 {j : SlotId} (hj : a2.slot? = some j) : j = k2 :=
    Option.some_inj.1 ((hacts2.slot? hj).symm.trans htarget2)
  have hassign1 := hacts1.ne_assign hsetup1
  have hassign2 := hacts2.ne_assign hsetup2
  have hkeep1 : (a1.run s).slot k2 = s.slot k2 :=
    Action.run_slot_other fun hj => hne (hslot1 hj).symm
  have hkeep2 : (a2.run s).slot k1 = s.slot k1 :=
    Action.run_slot_other fun hj => hne (hslot2 hj)
  have hagrees1 : s.AgreesOn (a2.run s) (some k1) :=
    ⟨(Action.run_registry hassign2).1, a2.run_params s, a2.run_pins s, fun j hj => by cases hj; exact hkeep2⟩
  have hagrees2 : s.AgreesOn (a1.run s) (some k2) :=
    ⟨(Action.run_registry hassign1).1, a1.run_params s, a1.run_pins s, fun j hj => by cases hj; exact hkeep1⟩
  refine ⟨_, _, _, _, hrun1 s (.refl s _), hrun2 _ hagrees2, hrun2 s (.refl s _), hrun1 _ hagrees1, ?state, ?response⟩
  case state =>
    have hregistry1 (u : State) := Action.run_registry (s := u) hassign1
    have hregistry2 (u : State) := Action.run_registry (s := u) hassign2
    apply State.respond_eq_of_lanes
    case hlane =>
      intro j
      by_cases hj : a2.slot? = some j
      · exact (Action.run_comm_lane s fun hj1 => hne ((hslot1 hj1).symm.trans (hslot2 hj))).symm
      · exact Action.run_comm_lane s hj
    all_goals simp only [hregistry1, hregistry2, Action.run_pins, Action.run_params, Action.run_inputs]
  case response =>
    intro hatomic
    constructor
    · refine Action.run_response_congr (hacts2.ne_readLatch hatomic) fun k hk => ?_
      rw [hslot2 hk, hkeep1]
    · refine Action.run_response_congr (hacts1.ne_readLatch hatomic) fun k hk => ?_
      rw [hslot1 hk, hkeep2]

/-- Settles O54: of the four changes of a registered slot only the consuming one clears the latch, and only a PULSE with
the result FAULT sets it. -/
theorem faultLatchChangesOnlyByPulseAndConsume : Obligations.FaultLatchChangesOnlyByPulseAndConsume := by
  unfold Obligations.FaultLatchChangesOnlyByPulseAndConsume
  intro i s t k hk hexec
  have hchange := exec_slotChange hk hexec
  generalize t.slot k = d at hchange
  cases hchange with
  | same => simp +contextual
  | pulsed r ph hi =>
    cases r with
    | fwd => simp +contextual [pulsed_fwd]
    | rev => simp +contextual [pulsed_rev]
    | noChg => simp +contextual [pulsed_noChg]
    | fault => simp [pulsed_fault, hi]
  | indexed hi =>
    obtain ⟨_, _, _, _, _, _, _, hlatch, _⟩ := indexed_frame (s.slot k)
    simp +contextual [hlatch]
  | consumed hatomic hi hn => exact ⟨fun _ _ => ⟨hatomic, _, hi, hn⟩, fun _ h => nomatch h⟩

/-- Settles O55: a PULSE changes the counters that its result names, INDEX `calcPPR`, and CFAULT none. -/
theorem countersChangeOnlyByInterruptOperations : Obligations.CountersChangeOnlyByInterruptOperations := by
  unfold Obligations.CountersChangeOnlyByInterruptOperations
  intro i s t k hk hexec
  have hchange := exec_slotChange hk hexec
  generalize t.slot k = d at hchange
  cases hchange with
  | same => simp
  | pulsed r ph hi =>
    cases r with
    | fwd => simp [pulsed_fwd, hi]
    | rev => simp [pulsed_rev, hi]
    | noChg => simp [pulsed_noChg]
    | fault => simp [pulsed_fault, hi]
  | indexed hi =>
    obtain ⟨_, _, _, hnet, hfwd, hrev, hflt, _⟩ := indexed_frame (s.slot k)
    simp [hnet, hfwd, hrev, hflt, hi]
  | consumed => simp

end Sys2Proof

/-! ### The agents' actions: rules of lines, pin changes and the clear step -/

namespace Sys2Proof.Machine

theorem Lines.get_set (l : Lines) (c c' : Channel) (v : Bool) :
    (l.set c v).get c' = if c' = c then v else l.get c' := by
  cases c with
  | a | b | z => cases c' with
    | a | b | z => rfl

/-- A pin change requests a callback that is bound (spec/60_exceptions.md R221). -/
theorem State.bound_of_edgeRequests {s : State} {k : SlotId} {c : Channel} {level : Bool}
    (h : s.edgeRequests k c level = true) : s.bound k = true ∧ (c = .z → s.zBound k = true) := by
  cases c with
  | a | b => exact ⟨h, nofun⟩
  | z =>
    obtain ⟨hz, _⟩ := Bool.and_eq_true_iff.1 h
    exact ⟨((s.zBound_iff k).1 hz).1, fun _ => hz⟩

/-- Everything a pin change can do. -/
theorem State.changePin_cases (s : State) (k : SlotId) (c : Channel) :
    s.changePin k c = s ∨ s.params.irqModel = .edgePending ∧ ∃ l,
      s.changePin k c = s.setPins k l ∨
      s.bound k = true ∧ (c = .z → s.zBound k = true) ∧
        s.changePin k c = (s.setPins k l).setPending k ((s.pending.get k).set c true) := by
  unfold State.changePin
  split
  next => exact .inl rfl
  next hmodel =>
    refine .inr ⟨hmodel, (s.pins.get k).set c (!(s.pins.get k).get c), ?_⟩
    dsimp only
    split
    next hrequest =>
      obtain ⟨hbound, hz⟩ := State.bound_of_edgeRequests hrequest
      exact .inr ⟨hbound, hz, rfl⟩
    next => exact .inl rfl

/-- A pin change writes pins and pending bits only. -/
theorem State.changePin_keeps (s : State) (k : SlotId) (c : Channel) :
    (s.changePin k c).count = s.count ∧ (s.changePin k c).slots = s.slots ∧ (s.changePin k c).split = s.split ∧
      (s.changePin k c).response = s.response ∧ (s.changePin k c).params = s.params ∧
      (s.changePin k c).inputs = s.inputs := by
  obtain h | ⟨_, l, h | ⟨_, _, h⟩⟩ := s.changePin_cases k c
  all_goals
    rw [h]
    exact ⟨rfl, rfl, rfl, rfl, rfl, rfl⟩

theorem State.changePin_slot (s : State) (k j : SlotId) (c : Channel) : (s.changePin k c).slot j = s.slot j := by
  obtain ⟨_, hslots, _⟩ := s.changePin_keeps k c
  exact congrArg (Bank.get · j) hslots

theorem State.splitClear_slot (s : State) (k j : SlotId) :
    (s.splitClear k).slot j = if j = k then { s.slot k with faultLatch := false } else s.slot j := by
  simp [State.splitClear, State.clearLatch]

theorem State.splitClear_busy (s : State) (k j : SlotId) :
    ((s.splitClear k).split.get j).busy = if j = k then false else (s.split.get j).busy := by
  simp only [State.splitClear, State.clearLatch, State.ret_split, State.setSplit_split, State.setSlot_split,
    Bank.get_set]
  split
  next => rfl
  next => rfl

/-- CF_CLEAR with the value returned read as a number (spec/43_read.md R174). -/
theorem State.splitClear_eq (s : State) (k : SlotId) :
    s.splitClear k = ((s.setSlot k { s.slot k with faultLatch := false }).setSplit k
      ⟨(s.split.get k).tmp, false⟩).respond .ok (if (s.split.get k).tmp = true then 1 else 0) := rfl

/-! ### The rules of `step`, one for each kind of next action -/

theorem step_idle {s : State} (h : s.inputs = []) : step s = exec .nop s := by
  simp only [step, State.advance, h]

section

variable {s : State} {rest : List Input}

/-- A decoded request runs, unless it is a host operation while a CFAULT is split. -/
theorem step_request {r : Request} {i : Instr} (hinputs : s.inputs = .request r :: rest) (hdecode : decode r = .ok i)
    (hfree : s.busySlot = none ∨ isHostOperation i = false) : step s = exec i (s.setInputs rest) := by
  simp only [step, State.advance, hinputs, State.serve, State.present, hdecode]
  split
  next k hbusy =>
    obtain hnone | hhost := hfree
    · rw [hnone] at hbusy
      cases hbusy
    · rw [hhost, if_neg Bool.false_ne_true]
  next => rfl

theorem step_host_waits {r : Request} {i : Instr} {k : SlotId} (hinputs : s.inputs = .request r :: rest)
    (hdecode : decode r = .ok i) (hbusy : s.busySlot = some k) (hhost : isHostOperation i = true) :
    step s = .next (s.splitClear k) := by
  simp only [step, State.advance, hinputs, State.serve, State.present, hdecode, hbusy, hhost, if_true]

theorem step_edge {k : SlotId} {c : Channel} (hinputs : s.inputs = .edge k c :: rest) :
    step s = .next ((s.setInputs rest).changePin k c) := by
  simp only [step, State.advance, hinputs, State.serve]

theorem step_dispatch {k : SlotId} {c : Channel} (hinputs : s.inputs = .dispatch k c :: rest)
    (hpending : (s.pending.get k).get c = true) :
    step s = exec (s.dispatched k c) ((s.setInputs rest).setPending k ((s.pending.get k).set c false)) := by
  simp only [step, State.advance, hinputs, State.serve, State.dispatchSource, State.setInputs_pending, hpending,
    if_true]
  rfl

theorem step_dispatch_of_not_pending {k : SlotId} {c : Channel} (hinputs : s.inputs = .dispatch k c :: rest)
    (hpending : (s.pending.get k).get c = false) : step s = .next (s.setInputs rest) := by
  simp only [step, State.advance, hinputs, State.serve, State.dispatchSource, State.setInputs_pending, hpending,
    Bool.false_eq_true, if_false]

theorem step_clear {k : SlotId} (hinputs : s.inputs = .clear k :: rest) (hbusy : (s.split.get k).busy = true) :
    step s = .next ((s.setInputs rest).splitClear k) := by
  simp only [step, State.advance, hinputs, State.serve, State.finishSplit, State.setInputs_split, hbusy, if_true]

theorem step_clear_of_not_busy {k : SlotId} (hinputs : s.inputs = .clear k :: rest)
    (hbusy : (s.split.get k).busy = false) : step s = .next (s.setInputs rest) := by
  simp only [step, State.advance, hinputs, State.serve, State.finishSplit, State.setInputs_split, hbusy,
    Bool.false_eq_true, if_false]

/-- A host operation is one of the setup or the poll context (spec/60_exceptions.md R230). -/
theorem isHostOperation_iff (i : Instr) : isHostOperation i = true ↔ i.context = .setup ∨ i.context = .poll := by
  simp only [isHostOperation, Bool.or_eq_true, beq_iff_eq]

theorem isHostOperation_eq_false_iff (i : Instr) :
    isHostOperation i = false ↔ i.context ≠ .setup ∧ i.context ≠ .poll := by
  rw [← Bool.not_eq_true, isHostOperation_iff, not_or]

theorem dispatched_not_host (s : State) (k : SlotId) (c : Channel) : isHostOperation (s.dispatched k c) = false := by
  cases c with
  | a | b | z => rfl

end

/-! ### Inversion of `step` -/

/-- The state an operation of this step runs on: the next action is taken off the schedule, and a dispatch clears its
pending bit. -/
inductive Taken (s : State) : State → Prop where
  | request (l : List Input) : Taken s (s.setInputs l)
  | source (l : List Input) (k : SlotId) (c : Channel) :
      Taken s ((s.setInputs l).setPending k ((s.pending.get k).set c false))

/-- Everything one step can do. -/
inductive StepEffect (s : State) : State → Prop where
  /-- an operation runs; a host operation only while no CFAULT is split -/
  | operation {s₀ : State} {i : Instr} {a : Action} (htaken : Taken s s₀)
      (hfree : s.busySlot = none ∨ isHostOperation i = false) (hacts : Acts i s₀ a) : StepEffect s (a.run s₀)
  /-- an illegal word, or an action that is not enabled -/
  | answer {s₀ : State} (htaken : Taken s s₀) (st : Status) (v : Word) : StepEffect s (s₀.respond st v)
  | drop {s₀ : State} (htaken : Taken s s₀) : StepEffect s s₀
  /-- the clear step of a split CFAULT -/
  | clear (l : List Input) (k : SlotId) (hbusy : (s.split.get k).busy = true) :
      StepEffect s ((s.setInputs l).splitClear k)
  /-- a pin change -/
  | edge (l : List Input) (k : SlotId) (c : Channel) : StepEffect s ((s.setInputs l).changePin k c)

theorem exec_stepEffect {s s₀ : State} {i : Instr} (htaken : Taken s s₀)
    (hfree : s.busySlot = none ∨ isHostOperation i = false) : ∃ t, exec i s₀ = .next t ∧ StepEffect s t := by
  obtain ⟨a, hacts, hexec⟩ := exec_acts s₀ i
  exact ⟨_, hexec, .operation htaken hfree hacts⟩

/-- Every step from every state answers a next state, with one of these effects (spec/60_exceptions.md R214). -/
theorem step_effect (s : State) : ∃ t, step s = .next t ∧ StepEffect s t := by
  cases hinputs : s.inputs with
  | nil =>
    rw [step_idle hinputs]
    exact exec_stepEffect (.request s.inputs) (.inr rfl)
  | cons e rest =>
    cases e with
    | request r =>
      cases hdecode : decode r with
      | error e => exact ⟨_, step_of_decode_error hinputs hdecode, .answer (.request rest) .illegal 0⟩
      | ok i =>
        by_cases hfree : s.busySlot = none ∨ isHostOperation i = false
        · rw [step_request hinputs hdecode hfree]
          exact exec_stepEffect (.request rest) hfree
        · obtain ⟨hbusy, hhost⟩ := not_or.1 hfree
          obtain ⟨k, hk⟩ := Option.ne_none_iff_exists'.1 hbusy
          exact ⟨_, step_host_waits hinputs hdecode hk (Bool.eq_true_of_not_eq_false hhost),
            .clear s.inputs k (s.busySlot_eq_some hk)⟩
    | edge k c => exact ⟨_, step_edge hinputs, .edge rest k c⟩
    | dispatch k c =>
      cases hpending : (s.pending.get k).get c with
      | true =>
        rw [step_dispatch hinputs hpending]
        exact exec_stepEffect (.source rest k c) (.inr (dispatched_not_host s k c))
      | false => exact ⟨_, step_dispatch_of_not_pending hinputs hpending, .drop (.request rest)⟩
    | clear k =>
      cases hbusy : (s.split.get k).busy with
      | true => exact ⟨_, step_clear hinputs hbusy, .clear rest k hbusy⟩
      | false => exact ⟨_, step_clear_of_not_busy hinputs hbusy, .drop (.request rest)⟩

theorem stepEffect_of_step {s t : State} (h : step s = .next t) : StepEffect s t := by
  obtain ⟨u, hu, heffect⟩ := step_effect s
  rw [h] at hu
  cases hu
  exact heffect

/-! Taking an action off the schedule touches the schedule and a pending bit only. -/

section

variable {s s₀ : State}

theorem Taken.count (h : Taken s s₀) : s₀.count = s.count := by
  cases h with
  | request | source => rfl

theorem Taken.slot (h : Taken s s₀) (j : SlotId) : s₀.slot j = s.slot j := by
  cases h with
  | request | source => rfl

theorem Taken.params (h : Taken s s₀) : s₀.params = s.params := by
  cases h with
  | request | source => rfl

theorem Taken.busySlot (h : Taken s s₀) : s₀.busySlot = s.busySlot := by
  cases h with
  | request | source => rfl

end

/-! ### What one step may leave in a slot -/

/-- What a step may leave in a slot that held `d`; a slot is constructed only where it is `free`. -/
inductive DecoderChange (free : Prop) (d : Decoder) : Decoder → Prop where
  | same : DecoderChange free d d
  | pulsed (r : DecodeResult) (ph : Phase) : DecoderChange free d (pulsed r ph d)
  | indexed : DecoderChange free d (indexed d)
  | cleared : DecoderChange free d { d with faultLatch := false }
  | constructed (hfree : free) (ppr : Word) (av bv zp : Bool) (ph : Phase) :
      DecoderChange free d (constructed ppr av bv zp ph)

/-- A write of slot `k` is a change of slot `j` only if they are the same. -/
theorem DecoderChange.setSlot {s : State} {j k : SlotId} {d : Decoder} {free : Prop}
    (h : j = k → DecoderChange free (s.slot j) d) : DecoderChange free (s.slot j) ((s.setSlot k d).slot j) := by
  rw [State.setSlot_slot]
  split
  next hjk => exact h hjk
  next => exact .same

theorem Acts.decoderChange {i : Instr} {s : State} {a : Action} (h : Acts i s a) (j : SlotId) :
    DecoderChange (j.val = s.count.val) (s.slot j) ((a.run s).slot j) := by
  cases h with
  | respond | readLatch => exact .same
  | pulse r ph => exact .setSlot fun hj => hj ▸ .pulsed r ph
  | index => exact .setSlot fun hj => hj ▸ .indexed
  | consume => exact .setSlot fun hj => hj ▸ .cleared
  | assign _ _ hk ppr av bv zp ph st =>
    exact DecoderChange.setSlot (s := s) (d := constructed ppr av bv zp ph) fun hj =>
      .constructed (hj ▸ hk) ppr av bv zp ph

theorem StepEffect.decoderChange {s t : State} (h : StepEffect s t) (j : SlotId) :
    DecoderChange (j.val = s.count.val) (s.slot j) (t.slot j) := by
  cases h with
  | operation htaken _ hacts =>
    rw [← htaken.slot j, ← htaken.count]
    exact hacts.decoderChange j
  | answer htaken | drop htaken =>
    rw [← htaken.slot j]
    exact .same
  | clear l k => exact DecoderChange.setSlot (s := s) fun hj => hj ▸ .cleared
  | edge l k c =>
    rw [State.changePin_slot]
    exact .same

/-- The slot count grows by one where REGISTER assigns a slot, and is kept by every other action. -/
theorem Acts.count {i : Instr} {s : State} {a : Action} (h : Acts i s a) :
    (a.run s).count = s.count ∨ (a.run s).count.val = s.count.val + 1 := by
  cases h with
  | respond | pulse | index | consume | readLatch => exact .inl rfl
  | assign _ _ hk ppr av bv zp ph st => exact .inr (s.assign_count_val hk (constructed ppr av bv zp ph))

theorem StepEffect.count {s t : State} (h : StepEffect s t) : t.count = s.count ∨ t.count.val = s.count.val + 1 := by
  cases h with
  | operation htaken _ hacts =>
    rw [← htaken.count]
    exact hacts.count
  | answer htaken | drop htaken => exact .inl htaken.count
  | clear l k => exact .inl rfl
  | edge l k c => exact .inl ((s.setInputs l).changePin_keeps k c).1

theorem StepEffect.params {s t : State} (h : StepEffect s t) : t.params = s.params := by
  cases h with
  | @operation s₀ i a htaken _ _ => rw [a.run_params, htaken.params]
  | answer htaken | drop htaken => exact htaken.params
  | clear l k => rfl
  | edge l k c =>
    obtain ⟨_, _, _, _, hparams, _⟩ := (s.setInputs l).changePin_keeps k c
    exact hparams

/-- Registered slots are never constructed again. -/
theorem step_decoderChange {s t : State} {k : SlotId} (hk : k.val < s.count.val) (h : step s = .next t) :
    DecoderChange False (s.slot k) (t.slot k) := by
  have hchange := (stepEffect_of_step h).decoderChange k
  generalize t.slot k = d at hchange ⊢
  cases hchange with
  | same => exact .same
  | pulsed r ph => exact .pulsed r ph
  | indexed => exact .indexed
  | cleared => exact .cleared
  | constructed hfree => omega

/-- The net count is the forward count less the reverse count, modulo 2^32 (spec/10_state.md R40). -/
def Decoder.NetConsistent (d : Decoder) : Prop := d.netCount = d.forwardCount - d.reverseCount

theorem pulsed_netConsistent (r : DecodeResult) (ph : Phase) {d : Decoder} (h : d.NetConsistent) :
    (pulsed r ph d).NetConsistent := by
  unfold Decoder.NetConsistent at h ⊢
  cases r with
  | fwd => rw [pulsed_fwd]; simp only [h]; ring
  | rev => rw [pulsed_rev]; simp only [h]; ring
  | noChg => rw [pulsed_noChg]; exact h
  | fault => rw [pulsed_fault]; exact h

theorem indexed_netConsistent {d : Decoder} (h : d.NetConsistent) : (indexed d).NetConsistent := by
  obtain ⟨_, _, _, hnet, hfwd, hrev, _⟩ := indexed_frame d
  simpa only [Decoder.NetConsistent, hnet, hfwd, hrev] using h

theorem constructed_netConsistent (ppr : Word) (av bv zp : Bool) (ph : Phase) :
    (constructed ppr av bv zp ph).NetConsistent :=
  (BitVec.sub_zero 0).symm

theorem DecoderChange.netConsistent {free : Prop} {d d' : Decoder} (hchange : DecoderChange free d d')
    (h : d.NetConsistent) : d'.NetConsistent := by
  cases hchange with
  | same => exact h
  | pulsed r ph => exact pulsed_netConsistent r ph h
  | indexed => exact indexed_netConsistent h
  | cleared => exact h
  | constructed _ ppr av bv zp ph => exact constructed_netConsistent ppr av bv zp ph

theorem StepEffect.netCountConsistent {s t : State} (heffect : StepEffect s t) (h : s.NetCountConsistent) :
    t.NetCountConsistent :=
  fun k => (heffect.decoderChange k).netConsistent (h k)

theorem State.resetWith_netCountConsistent (p : Params) : (State.resetWith p).NetCountConsistent := by
  intro k
  rw [State.resetWith_slot]
  rfl

/-- A difference of two words whose exact value fits the signed range has that value. -/
theorem toInt_sub_of_fits (f r : Word) (hlo : -(2 ^ 31) ≤ (f.toNat : Int) - r.toNat)
    (hhi : (f.toNat : Int) - r.toNat < 2 ^ 31) : (f - r).toInt = (f.toNat : Int) - r.toNat := by
  rw [BitVec.toInt_eq_toNat_cond, BitVec.toNat_sub]
  omega

end Sys2Proof.Machine

namespace Sys2Proof

open Machine

/-- Settles O50: no change of a decoder breaks the equation, and a difference that fits is not reduced. -/
theorem netCountIsForwardLessReverse : Obligations.NetCountIsForwardLessReverse := by
  unfold Obligations.NetCountIsForwardLessReverse
  refine ⟨State.resetWith_netCountConsistent, ?kept, ?exact⟩
  case kept => exact fun s t h hstep => (stepEffect_of_step hstep).netCountConsistent h
  case exact =>
    intro s k h hlo hhi
    rw [h k, toInt_sub_of_fits _ _ hlo hhi]

/-- Settles O51: only an assignment changes the count, and it adds one. -/
theorem countNeverDecreases : Obligations.CountNeverDecreases := by
  unfold Obligations.CountNeverDecreases
  intro s t hstep
  refine ⟨by omega, ?_⟩
  obtain hsame | hgrown := (stepEffect_of_step hstep).count
  · exact ⟨by omega, fun hne => absurd hsame hne⟩
  · exact ⟨by omega, fun _ => hgrown⟩

/-- Settles O52: every change of a decoder but construction frames the configuration. -/
theorem configurationIsImmutableOnceRegistered : Obligations.ConfigurationIsImmutableOnceRegistered := by
  unfold Obligations.ConfigurationIsImmutableOnceRegistered
  intro s t k hk hstep
  rw [(stepEffect_of_step hstep).params]
  have hchange := step_decoderChange hk hstep
  generalize t.slot k = d at hchange
  cases hchange with
  | same | cleared => exact ⟨rfl, rfl, rfl, rfl, rfl⟩
  | pulsed r ph =>
    obtain ⟨_, _, _, hcfg, ha, hb, hz⟩ := pulsed_frame r ph (s.slot k)
    exact ⟨hcfg, ha, hb, hz, rfl⟩
  | indexed =>
    obtain ⟨_, _, _, _, _, _, _, _, hcfg, ha, hb, hz⟩ := indexed_frame (s.slot k)
    exact ⟨hcfg, ha, hb, hz, rfl⟩
  | constructed hfree => exact hfree.elim

/-- Settles O53: PULSE and CFAULT frame `firstIndexSeen`, and INDEX sets it. -/
theorem firstIndexSeenIsNeverCleared : Obligations.FirstIndexSeenIsNeverCleared := by
  unfold Obligations.FirstIndexSeenIsNeverCleared
  intro s t k hk hstep hseen
  have hchange := step_decoderChange hk hstep
  generalize t.slot k = d at hchange ⊢
  cases hchange with
  | same | cleared => exact hseen
  | pulsed r ph => exact (pulsed_frame r ph (s.slot k)).1.trans hseen
  | indexed => exact (indexed_frame (s.slot k)).1
  | constructed hfree => exact hfree.elim

end Sys2Proof

/-! ### The invariant: what each write of the state needs to keep it -/

namespace Sys2Proof.Machine

/-- The clauses of the invariant that concern one decoder, `b` and `z` being its slot's `bound` and `zBound`. -/
structure Decoder.Sound (d : Decoder) (b z : Bool) : Prop where
  net : d.NetConsistent
  unbound : b = false → d.AtConstruction
  index : d.firstIndexSeen = false → d.calcPPR = 0 ∧ d.netCountAtLastIndex = 0
  callback : d.firstIndexSeen = true → z = true

theorem pulsed_sound (r : DecodeResult) (ph : Phase) {d : Decoder} {z : Bool} (h : d.Sound true z) :
    (pulsed r ph d).Sound true z := by
  obtain ⟨hseen, hlast, hppr, _⟩ := pulsed_frame r ph d
  refine ⟨pulsed_netConsistent r ph h.net, nofun, ?_, ?_⟩
  · rw [hseen, hlast, hppr]
    exact h.index
  · rw [hseen]
    exact h.callback

theorem indexed_sound {d : Decoder} (h : d.Sound true true) : (indexed d).Sound true true := by
  obtain ⟨hseen, _⟩ := indexed_frame d
  refine ⟨indexed_netConsistent h.net, nofun, fun hno => ?_, fun _ => rfl⟩
  rw [hseen] at hno
  cases hno

theorem Decoder.Sound.clearLatch {d : Decoder} {b z : Bool} (h : d.Sound b z) :
    { d with faultLatch := false }.Sound b z := by
  refine ⟨h.net, fun hb => ?_, h.index, h.callback⟩
  obtain ⟨hphase, hnet, hfwd, hrev, hflt, _, hseen, hlast, hppr⟩ := h.unbound hb
  exact ⟨hphase, hnet, hfwd, hrev, hflt, rfl, hseen, hlast, hppr⟩

/-- A slot under construction counts nothing, and without both required pins its phase is 0 (spec/40_construct.md
R131). -/
theorem constructed_sound (ppr : Word) (av bv zp : Bool) (ph : Phase) {b : Bool} (z : Bool)
    (hb : b = true ↔ av = true ∧ bv = true) : (constructed ppr av bv zp ph).Sound b z := by
  refine ⟨constructed_netConsistent ppr av bv zp ph, fun hno => ?_, fun _ => ⟨rfl, rfl⟩, nofun⟩
  have hpins : ¬ (av = true ∧ bv = true) := fun h => by rw [hb.2 h] at hno; cases hno
  rw [constructed_eq, if_neg hpins]
  exact ⟨rfl, rfl, rfl, rfl, rfl, rfl, rfl, rfl, rfl⟩

theorem zero_sound (b z : Bool) : Decoder.zero.Sound b z :=
  ⟨(BitVec.sub_zero 0).symm, fun _ => ⟨rfl, rfl, rfl, rfl, rfl, rfl, rfl, rfl, rfl⟩, fun _ => ⟨rfl, rfl⟩, nofun⟩

section

variable {s : State}

theorem State.Inv.sound (h : s.Inv) (k : SlotId) : (s.slot k).Sound (s.bound k) (s.zBound k) :=
  ⟨h.netCount k, h.unbound k, h.index k, h.callback k⟩

theorem State.inv_of_sound (hsound : ∀ k, (s.slot k).Sound (s.bound k) (s.zBound k))
    (hunassigned : s.UnassignedZero) (hpending : s.PendingJustified) (hsplit : s.SplitJustified) : s.Inv where
  netCount k := (hsound k).net
  unbound k := (hsound k).unbound
  index k := (hsound k).index
  callback k := (hsound k).callback
  unassigned := hunassigned
  pending := hpending
  split := hsplit

theorem State.resetWith_inv (p : Params) : (State.resetWith p).Inv := by
  refine State.inv_of_sound (fun k => ?_) (fun k _ => State.resetWith_slot p k) (fun k c h => ?_)
    ⟨fun k h => ?_, fun j k h => ?_⟩
  · rw [State.resetWith_slot]
    exact zero_sound _ _
  · rw [State.resetWith_pending_get, Lines.zero_get] at h
    cases h
  · rw [State.resetWith_split_get] at h
    cases h
  · rw [State.resetWith_split_get] at h
    cases h

/-! The invariant reads neither the response port nor the pins nor the schedule. -/

theorem State.Inv.respond (h : s.Inv) (st : Status) (v : Word) : (s.respond st v).Inv :=
  ⟨h.netCount, h.unbound, h.index, h.callback, h.unassigned, h.pending, h.split⟩

theorem State.Inv.setInputs (h : s.Inv) (l : List Input) : (s.setInputs l).Inv :=
  ⟨h.netCount, h.unbound, h.index, h.callback, h.unassigned, h.pending, h.split⟩

theorem State.Inv.setPins (h : s.Inv) (k : SlotId) (l : Lines) : (s.setPins k l).Inv :=
  ⟨h.netCount, h.unbound, h.index, h.callback, h.unassigned, h.pending, h.split⟩

theorem State.Inv.setPending (h : s.Inv) (k : SlotId) (c : Channel) {v : Bool}
    (hv : v = true → s.params.irqModel = .edgePending ∧ s.bound k = true ∧ (c = .z → s.zBound k = true)) :
    (s.setPending k ((s.pending.get k).set c v)).Inv := by
  refine ⟨h.netCount, h.unbound, h.index, h.callback, h.unassigned, fun j c' hset => ?_, h.split⟩
  rw [State.setPending_pending, Bank.get_set] at hset
  split at hset
  next hj =>
    subst hj
    rw [Lines.get_set] at hset
    split at hset
    next hc => exact hc ▸ hv hset
    next => exact h.pending j c' hset
  next => exact h.pending j c' hset

theorem State.Inv.setSplit (h : s.Inv) (k : SlotId) {r : SplitRead}
    (hr : r.busy = true → s.params.consumeAtomic = false ∧ k.val < s.count.val ∧ s.busySlot = none) :
    (s.setSplit k r).Inv := by
  refine ⟨h.netCount, h.unbound, h.index, h.callback, h.unassigned, h.pending, fun j hj => ?_, fun i j hi hj => ?_⟩
  · rw [State.setSplit_split, Bank.get_set] at hj
    split at hj
    next heq =>
      obtain ⟨hatomic, hk, _⟩ := hr hj
      exact ⟨hatomic, heq ▸ hk⟩
    next => exact h.split.1 j hj
  · rw [State.setSplit_split, Bank.get_set] at hi hj
    have hbusy (hr' : r.busy = true) (m : SlotId) : (s.split.get m).busy = false := by
      obtain ⟨_, _, hnone⟩ := hr hr'
      exact s.busySlot_eq_none.1 hnone m
    split at hi
    next hik =>
      split at hj
      next hjk => rw [hik, hjk]
      next => rw [hbusy hi j] at hj; cases hj
    next =>
      split at hj
      next => rw [hbusy hj i] at hi; cases hi
      next => exact h.split.2 i j hi hj

/-- A write of a registered slot that leaves the pin configuration and is sound for the slot. -/
theorem State.Inv.setSlot (h : s.Inv) {k : SlotId} (hk : k.val < s.count.val) {d : Decoder}
    (ha : d.aValid = (s.slot k).aValid) (hb : d.bValid = (s.slot k).bValid) (hz : d.zPresent = (s.slot k).zPresent)
    (hd : (s.slot k).Sound (s.bound k) (s.zBound k) → d.Sound (s.bound k) (s.zBound k)) : (s.setSlot k d).Inv := by
  have hbound := s.setSlot_bound k d ha hb
  have hzBound := s.setSlot_zBound k d ha hb hz
  refine State.inv_of_sound (fun j => ?_) (fun j hj => ?_) (fun j c hpending => ?_) h.split
  · rw [hbound, hzBound, State.setSlot_slot]
    split
    next hjk => exact hjk ▸ hd (h.sound k)
    next => exact h.sound j
  · rw [State.setSlot_count] at hj
    rw [State.setSlot_slot, if_neg (by rintro rfl; omega)]
    exact h.unassigned j hj
  · rw [hbound, hzBound]
    exact h.pending j c hpending

/-- Registering a slot leaves the callbacks of the others as they were. -/
theorem State.assign_bound_other {j k : SlotId} (hk : k.val = s.count.val) (d : Decoder) (hj : j ≠ k) :
    (s.assign k d).bound j = s.bound j := by
  have hne : j.val ≠ k.val := fun h => hj (Fin.ext h)
  rw [Bool.eq_iff_iff, State.bound_iff, State.bound_iff, State.assign_slot, if_neg hj, s.assign_count_val hk]
  refine and_congr_left fun _ => ?_
  omega

theorem State.Inv.assign (h : s.Inv) {k : SlotId} (hk : k.val = s.count.val) (ppr : Word) (av bv zp : Bool)
    (ph : Phase) : (s.assign k (constructed ppr av bv zp ph)).Inv := by
  have hcount := s.assign_count_val hk (constructed ppr av bv zp ph)
  refine State.inv_of_sound (fun j => ?_) (fun j hj => ?_) (fun j c hpending => ?_) ⟨fun j hbusy => ?_, h.split.2⟩
  · by_cases hj : j = k
    · subst hj
      rw [State.assign_slot, if_pos rfl]
      exact constructed_sound ppr av bv zp ph _ (s.assign_bound_iff hk _)
    · have hslot : (s.assign k (constructed ppr av bv zp ph)).slot j = s.slot j := by
        rw [State.assign_slot, if_neg hj]
      rw [State.zBound, hslot, State.assign_bound_other hk _ hj]
      exact h.sound j
  · rw [hcount] at hj
    rw [State.assign_slot, if_neg (by rintro rfl; omega)]
    exact h.unassigned j (by omega)
  · rw [State.assign_pending_get, Lines.zero_get] at hpending
    cases hpending
  · obtain ⟨hatomic, hregistered⟩ := h.split.1 j hbusy
    exact ⟨hatomic, by omega⟩

theorem State.Inv.clearLatch (h : s.Inv) {k : SlotId} (hk : k.val < s.count.val) : (s.clearLatch k).Inv :=
  h.setSlot hk rfl rfl rfl fun hsound => hsound.clearLatch

/-- An operation keeps the invariant; a host operation only while no CFAULT is split, for it may split another. -/
theorem State.Inv.acts (h : s.Inv) {i : Instr} {a : Action} (hacts : Acts i s a)
    (hfree : s.busySlot = none ∨ isHostOperation i = false) : (a.run s).Inv := by
  cases hacts with
  | respond st v => exact h.respond st v
  | @pulse k r ph _ _ hbound =>
    obtain ⟨_, _, _, _, ha, hb, hz⟩ := pulsed_frame r ph (s.slot k)
    refine (h.setSlot ((s.bound_iff k).1 hbound).1 ha hb hz ?_).respond .ok 0
    rw [hbound]
    exact pulsed_sound r ph
  | @index k _ hzBound =>
    obtain ⟨_, _, _, _, _, _, _, _, _, ha, hb, hz⟩ := indexed_frame (s.slot k)
    obtain ⟨hbound, _⟩ := (s.zBound_iff k).1 hzBound
    refine (h.setSlot ((s.bound_iff k).1 hbound).1 ha hb hz ?_).respond .ok 0
    rw [hbound, hzBound]
    exact indexed_sound
  | consume _ hk _ => exact (h.clearLatch (s.resolve_lt hk)).respond .ok _
  | readLatch hi hk hsplit =>
    have hhost : isHostOperation i = true := (isHostOperation_iff i).2 (.inr (by rw [hi]; rfl))
    have hnone : s.busySlot = none := hfree.resolve_right (by rw [hhost]; exact Bool.noConfusion)
    exact h.setSplit _ fun _ => ⟨hsplit, s.resolve_lt hk, hnone⟩
  | assign _ _ hk ppr av bv zp ph st => exact (h.assign hk ppr av bv zp ph).respond st _

theorem State.Inv.splitClear (h : s.Inv) {k : SlotId} (hbusy : (s.split.get k).busy = true) : (s.splitClear k).Inv :=
  ((h.clearLatch (h.split.1 k hbusy).2).setSplit k (r := { s.split.get k with busy := false }) nofun).respond .ok _

theorem State.Inv.changePin (h : s.Inv) (k : SlotId) (c : Channel) : (s.changePin k c).Inv := by
  obtain heq | ⟨hmodel, l, heq | ⟨hbound, hz, heq⟩⟩ := s.changePin_cases k c
  all_goals rw [heq]
  · exact h
  · exact h.setPins k l
  · exact (h.setPins k l).setPending k c fun _ => ⟨hmodel, hbound, hz⟩

theorem State.Inv.taken (h : s.Inv) {s₀ : State} (htaken : Taken s s₀) : s₀.Inv := by
  cases htaken with
  | request l => exact h.setInputs l
  | source l k c => exact (h.setInputs l).setPending k c nofun

theorem StepEffect.inv {t : State} (heffect : StepEffect s t) (h : s.Inv) : t.Inv := by
  cases heffect with
  | operation htaken hfree hacts => exact (h.taken htaken).acts hacts (by rwa [htaken.busySlot])
  | answer htaken st v => exact (h.taken htaken).respond st v
  | drop htaken => exact h.taken htaken
  | clear l k hbusy => exact (h.setInputs l).splitClear hbusy
  | edge l k c => exact (h.setInputs l).changePin k c

end

/-! ### Runs of the machine -/

theorem core_run_succ {s t : State} (h : step s = .next t) (n : Nat) :
    Sys2Proof.core.run (n + 1) s = Sys2Proof.core.run n t := by
  have hstep : Sys2Proof.core.step s = .next t := h
  simp only [Host.Core.run, hstep]

theorem core_run_zero (s : State) : Sys2Proof.core.run 0 s = .next s := rfl

/-- The induction over a run: what every step keeps, the run keeps, and it never stops. -/
theorem core_run_keeps {P : State → Prop} (hstep : ∀ s, P s → ∃ t, step s = .next t ∧ P t) (n : Nat) {s : State}
    (hs : P s) : ∃ t, Sys2Proof.core.run n s = .next t ∧ P t := by
  induction n generalizing s with
  | zero => exact ⟨s, core_run_zero s, hs⟩
  | succ n ih =>
    obtain ⟨t, ht, hP⟩ := hstep s hs
    obtain ⟨u, hu, hPu⟩ := ih hP
    exact ⟨u, (core_run_succ ht n).trans hu, hPu⟩

theorem exec_keeps_inputs (i : Instr) (s : State) : ∃ t, exec i s = .next t ∧ t.inputs = s.inputs := by
  obtain ⟨a, _, hexec⟩ := exec_acts s i
  exact ⟨_, hexec, a.run_inputs s⟩

/-- Where one CFAULT is split at a time, its clear step leaves none. -/
theorem State.busySlot_after_splitClear {s : State} (h : s.SplitJustified) {k : SlotId} (hbusy : s.busySlot = some k) :
    (s.splitClear k).busySlot = none := by
  rw [State.busySlot_eq_none]
  intro j
  rw [State.splitClear_busy]
  split
  next => rfl
  next hj => exact Bool.eq_false_of_not_eq_true fun hj' => hj (h.2 j k hj' (s.busySlot_eq_some hbusy))

end Sys2Proof.Machine

namespace Sys2Proof

open Machine

/-- Settles O10: every slot is zero, no source is pending and no CFAULT is split. -/
theorem resetSatisfiesTheInvariant : Obligations.ResetSatisfiesTheInvariant := by
  unfold Obligations.ResetSatisfiesTheInvariant
  exact State.resetWith_inv

/-- Settles O48: by the effects of a step, each a few writes that keep the invariant. -/
theorem stepKeepsTheInvariant : Obligations.StepKeepsTheInvariant := by
  unfold Obligations.StepKeepsTheInvariant
  intro s t hinv hstep
  exact (stepEffect_of_step hstep).inv hinv

/-- Settles O49: by induction over the run, whatever the schedule. -/
theorem everyScheduleFromResetKeepsTheInvariant : Obligations.EveryScheduleFromResetKeepsTheInvariant := by
  unfold Obligations.EveryScheduleFromResetKeepsTheInvariant
  intro p schedule n
  refine core_run_keeps (fun s hs => ?_) n ((State.resetWith_inv p).setInputs schedule)
  obtain ⟨t, hstep, heffect⟩ := step_effect s
  exact ⟨t, hstep, heffect.inv hs⟩

/-- Settles O59: every next action is taken at once, but for a host operation while a CFAULT is split, which the step
after the clear step takes. -/
theorem everyScheduledActionIsTakenWithinTwoSteps : Obligations.EveryScheduledActionIsTakenWithinTwoSteps := by
  unfold Obligations.EveryScheduledActionIsTakenWithinTwoSteps
  refine ⟨fun s => ?goesOn, fun s e rest hsplit hinputs => ?taken⟩
  case goesOn =>
    obtain ⟨t, hstep, _⟩ := step_effect s
    exact ⟨t, hstep⟩
  case taken =>
    cases e with
    | request r =>
      cases hdecode : decode r with
      | error e => exact ⟨_, step_of_decode_error hinputs hdecode, .inl rfl⟩
      | ok i =>
        by_cases hfree : s.busySlot = none ∨ isHostOperation i = false
        · obtain ⟨t, hexec, ht⟩ := exec_keeps_inputs i (s.setInputs rest)
          exact ⟨t, (step_request hinputs hdecode hfree).trans hexec, .inl ht⟩
        · obtain ⟨hbusy, hhost⟩ := not_or.1 hfree
          obtain ⟨k, hk⟩ := Option.ne_none_iff_exists'.1 hbusy
          obtain ⟨u, hexec, hu⟩ := exec_keeps_inputs i ((s.splitClear k).setInputs rest)
          have hwait := step_host_waits hinputs hdecode hk (Bool.eq_true_of_not_eq_false hhost)
          have hthen := step_request (s := s.splitClear k) hinputs hdecode
            (.inl (State.busySlot_after_splitClear hsplit hk))
          exact ⟨_, hwait, .inr ⟨hinputs, u, hthen.trans hexec, hu⟩⟩
    | edge k c =>
      obtain ⟨_, _, _, _, _, ht⟩ := (s.setInputs rest).changePin_keeps k c
      exact ⟨_, step_edge hinputs, .inl ht⟩
    | dispatch k c =>
      cases hpending : (s.pending.get k).get c with
      | true =>
        obtain ⟨t, hexec, ht⟩ := exec_keeps_inputs (s.dispatched k c)
          ((s.setInputs rest).setPending k ((s.pending.get k).set c false))
        exact ⟨t, (step_dispatch hinputs hpending).trans hexec, .inl ht⟩
      | false => exact ⟨_, step_dispatch_of_not_pending hinputs hpending, .inl rfl⟩
    | clear k =>
      cases hbusy : (s.split.get k).busy with
      | true => exact ⟨_, step_clear hinputs hbusy, .inl rfl⟩
      | false => exact ⟨_, step_clear_of_not_busy hinputs hbusy, .inl rfl⟩

end Sys2Proof

/-! ### The encoder: the bits of a packed command word, and a word put together again from its fields -/

namespace Sys2Proof

section

variable (op : BitVec 4) (slot : BitVec 2) (ph : Phase) (zp bv av : Bool)

/-- The bits of a packed command word, field by field from `RSV` up (spec/30_encoding.md R111). -/
theorem getLsbD_packCmd (i : Nat) : (packCmd op slot ph zp bv av).getLsbD i =
    if i < 5 then false else if i = 5 then av else if i = 6 then bv else if i = 7 then zp
    else if i < 10 then ph.getLsbD (i - 8) else if i < 12 then slot.getLsbD (i - 10) else op.getLsbD (i - 12) := by
  simp only [packCmd, BitVec.getLsbD_append (n := 11) (m := 5), BitVec.getLsbD_append (n := 10) (m := 1),
    BitVec.getLsbD_append (n := 9) (m := 1), BitVec.getLsbD_append (n := 8) (m := 1),
    BitVec.getLsbD_append (n := 6) (m := 2), BitVec.getLsbD_append (n := 4) (m := 2), BitVec.getLsbD_ofBool,
    BitVec.getLsbD_zero, Nat.sub_sub]
  grind

@[simp] theorem cmdOp_packCmd : cmdOp (packCmd op slot ph zp bv av) = op := by
  apply BitVec.eq_of_getLsbD_eq
  intro i hi
  rw [cmdOp, BitVec.getLsbD_extractLsb', getLsbD_packCmd]
  grind

@[simp] theorem cmdSlot_packCmd : cmdSlot (packCmd op slot ph zp bv av) = slot.toNat := by
  refine congrArg BitVec.toNat (BitVec.eq_of_getLsbD_eq fun i hi => ?_)
  rw [BitVec.getLsbD_extractLsb', getLsbD_packCmd]
  grind

@[simp] theorem cmdPhase_packCmd : cmdPhase (packCmd op slot ph zp bv av) = ph := by
  apply BitVec.eq_of_getLsbD_eq
  intro i hi
  rw [cmdPhase, BitVec.getLsbD_extractLsb', getLsbD_packCmd]
  grind

@[simp] theorem cmdZp_packCmd : cmdZp (packCmd op slot ph zp bv av) = zp := getLsbD_packCmd op slot ph zp bv av 7

@[simp] theorem cmdBv_packCmd : cmdBv (packCmd op slot ph zp bv av) = bv := getLsbD_packCmd op slot ph zp bv av 6

@[simp] theorem cmdAv_packCmd : cmdAv (packCmd op slot ph zp bv av) = av := getLsbD_packCmd op slot ph zp bv av 5

@[simp] theorem cmdRsv_packCmd : cmdRsv (packCmd op slot ph zp bv av) = 0 := by
  apply BitVec.eq_of_getLsbD_eq
  intro i hi
  rw [cmdRsv, BitVec.getLsbD_extractLsb', getLsbD_packCmd]
  grind

/-- The bits that PULSE leaves unused are those of the three flags (spec/30_encoding.md R113). -/
theorem pulseUnused_packCmd : (packCmd op slot ph false false false).extractLsb' 5 3 = 0 := by
  apply BitVec.eq_of_getLsbD_eq
  intro i hi
  rw [BitVec.getLsbD_extractLsb', getLsbD_packCmd]
  grind

/-- The bits that an operation with a slot alone leaves unused are those of the phase and the flags. -/
theorem slotUnused_packSlot (k : Nat) : (packSlot op k).extractLsb' 5 5 = 0 := by
  apply BitVec.eq_of_getLsbD_eq
  intro i hi
  rw [packSlot, BitVec.getLsbD_extractLsb', getLsbD_packCmd]
  grind

end

/-- A command word is made of its fields when `RSV` is zero. -/
theorem packCmd_fields {w : BitVec 16} (hrsv : cmdRsv w = 0) :
    packCmd (cmdOp w) (BitVec.ofNat 2 (cmdSlot w)) (cmdPhase w) (cmdZp w) (cmdBv w) (cmdAv w) = w := by
  have hlow (i : Nat) (hi : i < 5) : w.getLsbD i = false := by
    simpa [cmdRsv, hi] using congrArg (·.getLsbD i) hrsv
  apply BitVec.eq_of_getLsbD_eq
  intro i hi
  rw [getLsbD_packCmd]
  simp only [cmdOp, cmdSlot, BitVec.ofNat_toNat, BitVec.setWidth_eq, cmdPhase, cmdZp, cmdBv, cmdAv,
    BitVec.getLsbD_extractLsb']
  grind

/-- A field of zeros is zero at each of its bits. -/
theorem getLsbD_of_extractLsb'_eq_zero {w : BitVec 16} {lo len : Nat} (h : w.extractLsb' lo len = 0) (i : Nat)
    (hi : i < len) : w.getLsbD (lo + i) = false := by
  simpa [hi] using congrArg (·.getLsbD i) h

theorem flags_of_unused {w : BitVec 16} {len : Nat} (hlen : 3 ≤ len) (h : w.extractLsb' 5 len = 0) :
    cmdZp w = false ∧ cmdBv w = false ∧ cmdAv w = false :=
  ⟨getLsbD_of_extractLsb'_eq_zero h 2 (by omega), getLsbD_of_extractLsb'_eq_zero h 1 (by omega),
    getLsbD_of_extractLsb'_eq_zero h 0 (by omega)⟩

theorem phase_of_unused {w : BitVec 16} {len : Nat} (hlen : 5 ≤ len) (h : w.extractLsb' 5 len = 0) :
    cmdPhase w = 0#2 := by
  apply BitVec.eq_of_getLsbD_eq
  intro i hi
  have hbit := getLsbD_of_extractLsb'_eq_zero h (3 + i) (by omega)
  rw [cmdPhase, BitVec.getLsbD_extractLsb', BitVec.getLsbD_zero, ← Nat.add_assoc] at *
  simp [hi, hbit]

theorem slot_of_unused {w : BitVec 16} (h : w.extractLsb' 5 7 = 0) : cmdSlot w = 0 := by
  have hslot : w.extractLsb' 10 2 = 0#2 := by
    apply BitVec.eq_of_getLsbD_eq
    intro i hi
    have hbit := getLsbD_of_extractLsb'_eq_zero h (5 + i) (by omega)
    rw [BitVec.getLsbD_extractLsb', BitVec.getLsbD_zero, ← Nat.add_assoc] at *
    simp [hi, hbit]
  rw [cmdSlot, hslot]
  rfl

/-! ### A word put together again, by the fields its operation leaves unused (spec/30_encoding.md R113) -/

section

variable {w : BitVec 16} (hrsv : cmdRsv w = 0)

include hrsv

theorem packCmd_of_pulseUnused (h : w.extractLsb' 5 3 = 0) :
    packCmd (cmdOp w) (BitVec.ofNat 2 (cmdSlot w)) (cmdPhase w) false false false = w := by
  obtain ⟨hz, hb, ha⟩ := flags_of_unused (by omega) h
  have hfields := packCmd_fields hrsv
  rwa [hz, hb, ha] at hfields

theorem packSlot_of_slotUnused (h : w.extractLsb' 5 5 = 0) : packSlot (cmdOp w) (cmdSlot w) = w := by
  obtain ⟨hz, hb, ha⟩ := flags_of_unused (by omega) h
  have hfields := packCmd_fields hrsv
  rwa [hz, hb, ha, phase_of_unused (by omega) h] at hfields

theorem packCmd_of_nopUnused (h : w.extractLsb' 5 7 = 0) : packCmd (cmdOp w) 0#2 0#2 false false false = w := by
  obtain ⟨hz, hb, ha⟩ := flags_of_unused (by omega) h
  have hfields := packCmd_fields hrsv
  rwa [hz, hb, ha, phase_of_unused (by omega) h, slot_of_unused h] at hfields

theorem packCmd_of_registerUnused (h : cmdSlot w = 0) :
    packCmd (cmdOp w) 0#2 (cmdPhase w) (cmdZp w) (cmdBv w) (cmdAv w) = w := by
  have hfields := packCmd_fields hrsv
  rwa [h] at hfields

end

/-! ### Decoding -/

theorem whenUnusedZero_eq_ok {unusedZero : Bool} {i j : Instr} (h : whenUnusedZero unusedZero i = .ok j) :
    unusedZero = true ∧ j = i := by
  cases unusedZero with
  | true => cases h; exact ⟨rfl, rfl⟩
  | false => cases h

theorem cmdSlot_lt (w : BitVec 16) : cmdSlot w < 4 := (w.extractLsb' 10 2).isLt

theorem slotFits_iff (k : Nat) : slotFits k = true ↔ k < 4 := decide_eq_true_iff

theorem slot_ofNat_toNat {k : Nat} (hk : k < 4) : (BitVec.ofNat 2 k).toNat = k := Nat.mod_eq_of_lt hk

theorem cmdOp_packSlot (op : BitVec 4) (k : Nat) : cmdOp (packSlot op k) = op := cmdOp_packCmd ..

theorem cmdRsv_packSlot (op : BitVec 4) (k : Nat) : cmdRsv (packSlot op k) = 0 := cmdRsv_packCmd ..

theorem cmdSlot_packSlot (op : BitVec 4) {k : Nat} (hk : k < 4) : cmdSlot (packSlot op k) = k :=
  (cmdSlot_packCmd ..).trans (slot_ofNat_toNat hk)

/-- A table transition is stored as its index beside its slot. -/
theorem encode_decodeTrans (idx : BitVec 4) (k : Nat) : encode (decodeTrans idx k) = .trans idx (BitVec.ofNat 2 k) := by
  have hidx := idx.isLt
  unfold decodeTrans
  split
  case h_16 =>
    have hlast : idx.toNat = 15 := by
      simp only [imp_false] at *
      omega
    exact congrArg (Request.trans · _) (BitVec.eq_of_toNat_eq hlast.symm)
  all_goals
    rename_i hn
    exact congrArg (Request.trans · _) (BitVec.eq_of_toNat_eq hn.symm)

theorem decode_trans (idx : BitVec 4) {k : Nat} (hk : k < 4) :
    decode (.trans idx (BitVec.ofNat 2 k)) = .ok (decodeTrans idx k) := by
  rw [decode, slot_ofNat_toNat hk]

theorem wellFormed_decodeTrans (idx : BitVec 4) {k : Nat} (hk : k < 4) : WellFormed (decodeTrans idx k) = true := by
  have hfits := (slotFits_iff k).2 hk
  unfold decodeTrans
  split <;> exact hfits

/-- A command word that decodes is put together from the operation it decodes to (spec/30_encoding.md R113, R119). -/
theorem encode_of_decodeCmd {w : BitVec 16} {wdata : Word} {i : Instr} (h : decodeCmd w wdata = .ok i) :
    WellFormed i = true ∧ encode i = (Request.cmd w wdata).canonical := by
  have hfits := (slotFits_iff _).2 (cmdSlot_lt w)
  unfold decodeCmd at h
  split at h
  next => cases h
  next hrsv =>
    replace hrsv := not_not.1 hrsv
    have hop {n : Nat} (hn : (cmdOp w).toNat = n) : cmdOp w = BitVec.ofNat 4 n := by
      rw [← hn, BitVec.ofNat_toNat, BitVec.setWidth_eq]
    split at h
    case h_12 => cases h
    all_goals
      rename_i hn
      obtain ⟨hunused, rfl⟩ := whenUnusedZero_eq_ok h
      replace hunused := eq_of_beq hunused
    case h_1 =>
      have hw := packCmd_of_nopUnused hrsv hunused
      rw [hop hn] at hw
      simp [WellFormed, encode, Request.canonical, hop hn, hw]
    case h_2 =>
      have hw := packCmd_of_registerUnused hrsv hunused
      rw [hop hn] at hw
      simp [WellFormed, encode, Request.canonical, hop hn, hw]
    case h_3 =>
      have hw := packCmd_of_pulseUnused hrsv hunused
      rw [hop hn] at hw
      simp [WellFormed, hfits, encode, Request.canonical, hop hn, hw]
    all_goals
      have hw := packSlot_of_slotUnused hrsv hunused
      rw [hop hn] at hw
      simp [WellFormed, hfits, encode, Request.canonical, hop hn, hw]

/-- Settles O1: each field of the word is read back as it was packed, a slot below 4 among them, and the fields the
operation leaves unused are zero. -/
theorem decodeOfEncodeGivesTheOperation : Obligations.DecodeOfEncodeGivesTheOperation := by
  unfold Obligations.DecodeOfEncodeGivesTheOperation
  intro i hfits
  cases i with
  | nop => exact decode_nop_word 0
  | register ppr av bv zp ph0 => simp [encode, decode, decodeCmd, whenUnusedZero]
  | pulse k ph =>
    have hk := (slotFits_iff k).1 hfits
    simp [encode, decode, decodeCmd, whenUnusedZero, pulseUnused_packCmd, Nat.mod_eq_of_lt hk]
  | index k | rdnet k | cfault k | rdppr k | inuse k | rdfwd k | rdrev k | rdflt k =>
    have hk := (slotFits_iff k).1 hfits
    simp [encode, decode, decodeCmd, whenUnusedZero, cmdRsv_packSlot, cmdOp_packSlot, slotUnused_packSlot,
      cmdSlot_packSlot _ hk]
  | trans00 k | trans01 k | trans02 k | trans03 k | trans10 k | trans11 k | trans12 k | trans13 k
  | trans20 k | trans21 k | trans22 k | trans23 k | trans30 k | trans31 k | trans32 k | trans33 k =>
    exact decode_trans _ ((slotFits_iff k).1 hfits)

/-- Settles O2: a command word by its `OP`, the unused fields of which the decoder has found zero; a table index by the
sixteen rows. -/
theorem encodeOfDecodeGivesTheRequest : Obligations.EncodeOfDecodeGivesTheRequest := by
  unfold Obligations.EncodeOfDecodeGivesTheRequest
  intro r i h
  cases r with
  | cmd w wdata => exact encode_of_decodeCmd h
  | trans idx slot =>
    cases h
    refine ⟨wellFormed_decodeTrans idx slot.isLt, ?_⟩
    rw [encode_decodeTrans, BitVec.ofNat_toNat, BitVec.setWidth_eq]
    rfl

/-- Settles O4: each word is read by the decoder's own rules, `OP` then the unused fields. -/
theorem specWordsDecodeAsNamed : Obligations.SpecWordsDecodeAsNamed := by
  unfold Obligations.SpecWordsDecodeAsNamed
  exact ⟨rfl, rfl, rfl, rfl, rfl, rfl, rfl, rfl, rfl, rfl, rfl, rfl, rfl, rfl, rfl, rfl, rfl, rfl⟩

end Sys2Proof

/-! ### The DecodeTable: closed form, packed constant, symmetries -/

namespace Sys2Proof.Machine

/-- The direction seen the other way round. -/
def oppositeResult (r : DecodeResult) : DecodeResult :=
  match r with
  | .fwd => .rev
  | .rev => .fwd
  | .noChg => .noChg
  | .fault => .fault

/-- The phase that gives the result `r` after phase `p` (spec/30_encoding.md R101 to R104). -/
def phaseAfter (r : DecodeResult) (p : Phase) : Phase :=
  match r with
  | .noChg => p
  | .fwd => nextPhase p
  | .rev => prevPhase p
  | .fault => 3 - p

theorem oppositeResult_eq_iff (r r' : DecodeResult) : oppositeResult r = r' ↔ r = oppositeResult r' := by
  cases r with
  | noChg | fwd | rev | fault => cases r' with
    | noChg | fwd | rev | fault => simp [oppositeResult]

/-- Each row of the table holds each result once. -/
theorem decodePair_eq_iff (p n : Phase) (r : DecodeResult) : decodePair p n = r ↔ n = phaseAfter r p := by
  revert p n
  cases r with
  | noChg | fwd | rev | fault => decide

theorem decodePair_swap : ∀ p n : Phase, decodePair n p = oppositeResult (decodePair p n) := by decide

theorem decodePair_complement : ∀ p n : Phase, decodePair (3 - p) (3 - n) = decodePair p n := by decide

theorem decodePair_exchange : ∀ p n : Phase,
    decodePair (p.extractLsb' 0 1 ++ p.extractLsb' 1 1) (n.extractLsb' 0 1 ++ n.extractLsb' 1 1) =
      oppositeResult (decodePair p n) := by decide

/-- Each column of the table holds each result once, for a column is a row read the other way round. -/
theorem decodePair_eq_iff_left (p n : Phase) (r : DecodeResult) :
    decodePair p n = r ↔ p = phaseAfter (oppositeResult r) n := by
  rw [decodePair_swap n p, oppositeResult_eq_iff, decodePair_eq_iff]

end Sys2Proof.Machine

namespace Sys2Proof

open Machine

/-- Settles O5: the sixteen pairs. -/
theorem decodeTableHasClosedForm : Obligations.DecodeTableHasClosedForm := by
  unfold Obligations.DecodeTableHasClosedForm
  decide

/-- Settles O6: the sixteen indices. -/
theorem decodeTableIsThePackedConstant : Obligations.DecodeTableIsThePackedConstant := by
  unfold Obligations.DecodeTableIsThePackedConstant
  decide

/-- Settles O8: the three symmetries pair by pair; the one phase of a row or a column is given by name. -/
theorem decodeTableSymmetries : Obligations.DecodeTableSymmetries := by
  unfold Obligations.DecodeTableSymmetries
  refine ⟨decodePair_swap, decodePair_complement, decodePair_exchange, fun p r => ?row, fun n r => ?column⟩
  case row => exact ⟨phaseAfter r p, (decodePair_eq_iff _ _ _).2 rfl, fun n => (decodePair_eq_iff p n r).1⟩
  case column => exact ⟨_, (decodePair_eq_iff_left _ _ _).2 rfl, fun p => (decodePair_eq_iff_left p n r).1⟩

end Sys2Proof

/-! ### The rows of the table as operations, and PULSE as the selected row -/

namespace Sys2Proof.Machine

theorem phase_cases : ∀ p : Phase, p = 0 ∨ p = 1 ∨ p = 2 ∨ p = 3 := by decide

/-- The sixteen rows state the results that the table holds (spec/30_encoding.md R100, R122). -/
theorem exec_transInstr (p n : Phase) (k : Nat) (s : State) :
    exec (transInstr p n k) s = .next (s.transition p n (decodePair p n) k) := by
  rcases phase_cases p with rfl | rfl | rfl | rfl
  all_goals rcases phase_cases n with rfl | rfl | rfl | rfl <;> rfl

section

variable {s : State}

theorem State.transition_of_selected {j : SlotId} (hbound : s.bound j = true) {p : Phase}
    (hp : (s.slot j).lastPhase = p) (n : Phase) (r : DecodeResult) :
    s.transition p n r j.val = (s.setSlot j (pulsed r n (s.slot j))).respond .ok 0 := by
  simp only [State.transition, (s.boundSlot_eq_some j.val j).2 ⟨rfl, hbound⟩, hp, if_true, State.ret_eq]

theorem State.transition_of_unselected {j : SlotId} (hbound : s.bound j = true) {p : Phase}
    (hp : (s.slot j).lastPhase ≠ p) (n : Phase) (r : DecodeResult) :
    s.transition p n r j.val = s.respond .ok 0 := by
  simp only [State.transition, (s.boundSlot_eq_some j.val j).2 ⟨rfl, hbound⟩, hp, if_false, State.ret_eq]

theorem State.transition_of_unbound {k : Nat} (hunbound : ∀ j : SlotId, j.val = k → s.bound j = false) (p n : Phase)
    (r : DecodeResult) : s.transition p n r k = s.respond .unbound 0 := by
  simp only [State.transition, (s.boundSlot_eq_none k).2 hunbound, State.raise_eq]

/-- A slot number from `count` on, or of a slot not in use, names no bound slot (spec/41_pulse.md R141). -/
theorem State.unbound_of_unregistered_or_unused {k : Nat}
    (h : s.count.val ≤ k ∨ ∃ j : SlotId, j.val = k ∧ (s.slot j).inUse = false) :
    ∀ j : SlotId, j.val = k → s.bound j = false := by
  rintro j rfl
  obtain hcount | ⟨i, hi, hunused⟩ := h
  · exact s.bound_eq_false_of_unregistered j hcount
  · obtain rfl := Fin.ext hi
    exact s.bound_eq_false_of_not_inUse i hunused

/-- A row on the slot it selects writes the decoder that `pulsed` makes of its result. -/
theorem exec_row_of_selected {k : Nat} {j : SlotId} {d d' : Decoder} (hk : j.val = k) (hbound : s.bound j = true)
    (hd : s.slot j = d) {p n : Phase} {r : DecodeResult} {i : Instr} (hi : exec i s = .next (s.transition p n r k))
    (hd' : pulsed r n d = d') (hp : d.lastPhase = p) : exec i s = .next ((s.setSlot j d').respond .ok 0) := by
  subst hk hd hd'
  rw [hi, State.transition_of_selected hbound hp]

end

end Sys2Proof.Machine

namespace Sys2Proof

open Machine

/-- Settles O19: the four rows name the result FWD. -/
theorem forwardTransitionRowsApplyTheirEntry : Obligations.ForwardTransitionRowsApplyTheirEntry := by
  unfold Obligations.ForwardTransitionRowsApplyTheirEntry
  intro s k j d hk hbound hd
  have row {p n : Phase} {i : Instr} (hi : exec i s = .next (s.transition p n .fwd k)) :=
    exec_row_of_selected hk hbound hd hi (pulsed_fwd n d)
  exact ⟨row rfl, row rfl, row rfl, row rfl⟩

/-- Settles O20: the four rows name the result REV. -/
theorem reverseTransitionRowsApplyTheirEntry : Obligations.ReverseTransitionRowsApplyTheirEntry := by
  unfold Obligations.ReverseTransitionRowsApplyTheirEntry
  intro s k j d hk hbound hd
  have row {p n : Phase} {i : Instr} (hi : exec i s = .next (s.transition p n .rev k)) :=
    exec_row_of_selected hk hbound hd hi (pulsed_rev n d)
  exact ⟨row rfl, row rfl, row rfl, row rfl⟩

/-- Settles O21: the four rows name the result NOCHG. -/
theorem noChangeTransitionRowsApplyTheirEntry : Obligations.NoChangeTransitionRowsApplyTheirEntry := by
  unfold Obligations.NoChangeTransitionRowsApplyTheirEntry
  intro s k j d hk hbound hd
  have row {p n : Phase} {i : Instr} (hi : exec i s = .next (s.transition p n .noChg k)) :=
    exec_row_of_selected hk hbound hd hi (pulsed_noChg n d)
  exact ⟨row rfl, row rfl, row rfl, row rfl⟩

/-- Settles O22: the four rows name the result FAULT. -/
theorem faultTransitionRowsApplyTheirEntry : Obligations.FaultTransitionRowsApplyTheirEntry := by
  unfold Obligations.FaultTransitionRowsApplyTheirEntry
  intro s k j d hk hbound hd
  have row {p n : Phase} {i : Instr} (hi : exec i s = .next (s.transition p n .fault k)) :=
    exec_row_of_selected hk hbound hd hi (pulsed_fault n d)
  exact ⟨row rfl, row rfl, row rfl, row rfl⟩

/-- Settles O23: by the two cases of a transition that writes no slot. -/
theorem unselectedTransitionHasNoEffect : Obligations.UnselectedTransitionHasNoEffect := by
  unfold Obligations.UnselectedTransitionHasNoEffect
  intro s p n k
  constructor
  · rintro j rfl hbound hp
    rw [exec_transInstr, State.transition_of_unselected hbound hp]
  · intro hcase
    rw [exec_transInstr, State.transition_of_unbound (State.unbound_of_unregistered_or_unused hcase)]

/-- Settles O24: on a bound slot both write what the table says of the pair; on any other both answer UNBOUND. -/
theorem pulseRunsTheSelectedTransitionRow : Obligations.PulseRunsTheSelectedTransitionRow := by
  unfold Obligations.PulseRunsTheSelectedTransitionRow
  have unbound {s : State} {k : Nat} (h : ∀ j : SlotId, j.val = k → s.bound j = false) (p ph : Phase) :
      exec (.pulse k ph) s = exec (transInstr p ph k) s := by
    rw [exec_pulse_of_unbound s h, exec_transInstr, State.transition_of_unbound h, State.raise_eq]
  intro s k ph
  constructor
  · rintro j rfl
    cases hbound : s.bound j with
    | true => rw [exec_pulse_of_bound s hbound, exec_transInstr, State.transition_of_selected hbound rfl, State.ret_eq]
    | false => exact unbound (fun i hi => Fin.ext hi ▸ hbound) _ ph
  · intro hk p
    exact unbound (fun j hj => absurd j.isLt (by omega)) p ph

end Sys2Proof

/-! ### Late sampling: PULSE after `m` unseen steps (spec/70_reset_and_hazards.md R264) -/

namespace Sys2Proof.Machine

theorem nextPhase_period (p : Phase) : Function.IsPeriodicPt nextPhase 4 p := by
  revert p
  unfold Function.IsPeriodicPt Function.IsFixedPt
  decide

theorem prevPhase_period (p : Phase) : Function.IsPeriodicPt prevPhase 4 p := by
  revert p
  unfold Function.IsPeriodicPt Function.IsFixedPt
  decide

/-- The result of a PULSE that comes `m` steps in one direction late: `ahead` is one step in that direction. -/
def lateResult (ahead : DecodeResult) (m : Nat) : DecodeResult :=
  match m % 4 with
  | 0 => .noChg
  | 1 => ahead
  | 2 => .fault
  | _ => oppositeResult ahead

section

variable {m : Nat} (ahead : DecodeResult)

theorem lateResult_of_mod_zero (h : m % 4 = 0) : lateResult ahead m = .noChg := by simp only [lateResult, h]

theorem lateResult_of_mod_one (h : m % 4 = 1) : lateResult ahead m = ahead := by simp only [lateResult, h]

theorem lateResult_of_mod_two (h : m % 4 = 2) : lateResult ahead m = .fault := by simp only [lateResult, h]

theorem lateResult_of_mod_three (h : m % 4 = 3) : lateResult ahead m = oppositeResult ahead := by
  simp only [lateResult, h]

end

theorem decodePair_iterate_nextPhase (p : Phase) (m : Nat) : decodePair p (nextPhase^[m] p) = lateResult .fwd m := by
  have hresidues : ∀ (p : Phase) (r : Fin 4), decodePair p (nextPhase^[r.val] p) = lateResult .fwd r.val := by decide
  have hmod : lateResult .fwd (m % 4) = lateResult .fwd m := by simp only [lateResult, Nat.mod_mod]
  rw [← (nextPhase_period p).iterate_mod_apply m, hresidues p ⟨m % 4, Nat.mod_lt m (by omega)⟩, hmod]

theorem decodePair_iterate_prevPhase (p : Phase) (m : Nat) : decodePair p (prevPhase^[m] p) = lateResult .rev m := by
  have hresidues : ∀ (p : Phase) (r : Fin 4), decodePair p (prevPhase^[r.val] p) = lateResult .rev r.val := by decide
  have hmod : lateResult .rev (m % 4) = lateResult .rev m := by simp only [lateResult, Nat.mod_mod]
  rw [← (prevPhase_period p).iterate_mod_apply m, hresidues p ⟨m % 4, Nat.mod_lt m (by omega)⟩, hmod]

/-- PULSE on a bound slot, read off from the result of its pair. -/
theorem exec_pulse_by_result {s : State} {j : SlotId} (hbound : s.bound j = true) {ph : Phase} {r : DecodeResult}
    (hr : decodePair (s.slot j).lastPhase ph = r) :
    ∃ t, exec (.pulse j.val ph) s = .next t ∧
      (r = .noChg → t.slot j = s.slot j) ∧
      (r = .fwd → (t.slot j).netCount = (s.slot j).netCount + 1 ∧ (t.slot j).faultCount = (s.slot j).faultCount) ∧
      (r = .fault → (t.slot j).netCount = (s.slot j).netCount ∧
        (t.slot j).faultCount = (s.slot j).faultCount + 1 ∧ (t.slot j).faultLatch = true) ∧
      (r = .rev → (t.slot j).netCount = (s.slot j).netCount - 1 ∧ (t.slot j).faultCount = (s.slot j).faultCount) := by
  obtain ⟨t, hexec, _, hslot⟩ := exec_pulse_of_result s hbound hr
  refine ⟨t, hexec, ?_⟩
  rw [hslot]
  cases r with
  | noChg =>
    have hph : ph = (s.slot j).lastPhase := (decodePair_eq_iff _ _ _).1 hr
    subst hph
    exact ⟨fun _ => rfl, nofun, nofun, nofun⟩
  | fwd => rw [pulsed_fwd]; exact ⟨nofun, fun _ => ⟨rfl, rfl⟩, nofun, nofun⟩
  | fault => rw [pulsed_fault]; exact ⟨nofun, nofun, fun _ => ⟨rfl, rfl, rfl⟩, nofun⟩
  | rev => rw [pulsed_rev]; exact ⟨nofun, nofun, nofun, fun _ => ⟨rfl, rfl⟩⟩

end Sys2Proof.Machine

namespace Sys2Proof

open Machine

/-- Settles O25: the phase cycle has period 4, so the pair that PULSE sees is that of `m` modulo 4. -/
theorem lateSamplingSeesTheMovementModuloFour : Obligations.LateSamplingSeesTheMovementModuloFour := by
  unfold Obligations.LateSamplingSeesTheMovementModuloFour
  intro s j m hbound
  constructor
  · obtain ⟨t, hexec, hsame, hfwd, hfault, hrev⟩ := exec_pulse_by_result hbound (decodePair_iterate_nextPhase _ m)
    exact ⟨t, hexec, fun h => hsame (lateResult_of_mod_zero _ h), fun h => hfwd (lateResult_of_mod_one _ h),
      fun h => hfault (lateResult_of_mod_two _ h), fun h => hrev (lateResult_of_mod_three _ h)⟩
  · obtain ⟨t, hexec, hsame, hfwd, hfault, hrev⟩ := exec_pulse_by_result hbound (decodePair_iterate_prevPhase _ m)
    exact ⟨t, hexec, fun h => hsame (lateResult_of_mod_zero _ h), fun h => hrev (lateResult_of_mod_one _ h),
      fun h => hfault (lateResult_of_mod_two _ h), fun h => hfwd (lateResult_of_mod_three _ h)⟩

end Sys2Proof

/-! ### Ideal sampling: the counts are the steps taken (spec/70_reset_and_hazards.md R263) -/

namespace Sys2Proof.Machine

/-- A decoder that has taken `f` steps forward and `r` back, the last to phase `p`, its faults as they were. -/
def Decoder.moved (d : Decoder) (p : Phase) (f r : Nat) : Decoder :=
  { d with
    lastPhase := p
    forwardCount := d.forwardCount + BitVec.ofNat 32 f
    reverseCount := d.reverseCount + BitVec.ofNat 32 r
    netCount := d.netCount + BitVec.ofInt 32 (f - r) }

theorem Decoder.moved_none (d : Decoder) : d.moved d.lastPhase 0 0 = d := by
  simp [Decoder.moved]

theorem ofInt_succ_sub (f r : Nat) :
    BitVec.ofInt 32 (((1 + f : Nat) : Int) - r) = 1 + BitVec.ofInt 32 ((f : Int) - r) := by
  rw [Nat.cast_add, Nat.cast_one, add_sub_assoc, BitVec.ofInt_add]
  rfl

theorem ofInt_sub_succ (f r : Nat) :
    BitVec.ofInt 32 ((f : Int) - ((1 + r : Nat) : Int)) = -1 + BitVec.ofInt 32 ((f : Int) - r) := by
  have hshift : (f : Int) - ((1 + r : Nat) : Int) = -1 + (f - r) := by omega
  rw [hshift, BitVec.ofInt_add]
  rfl

/-- A forward step and then the rest of the movement. -/
theorem moved_pulsed_fwd (d : Decoder) (q p : Phase) (f r : Nat) :
    (pulsed .fwd q d).moved p f r = d.moved p (1 + f) r := by
  rw [pulsed_fwd, Decoder.moved, Decoder.moved, ofInt_succ_sub, BitVec.ofNat_add, BitVec.add_assoc, BitVec.add_assoc]
  rfl

/-- A reverse step and then the rest of the movement. -/
theorem moved_pulsed_rev (d : Decoder) (q p : Phase) (f r : Nat) :
    (pulsed .rev q d).moved p f r = d.moved p f (1 + r) := by
  rw [pulsed_rev, Decoder.moved, Decoder.moved, ofInt_sub_succ, BitVec.ofNat_add, BitVec.sub_eq_add_neg,
    BitVec.add_assoc, BitVec.add_assoc]
  rfl

theorem nextPhase_ne_prevPhase : ∀ p : Phase, nextPhase p ≠ prevPhase p := by decide

/-- A PULSE keeps the slot's callbacks bound (spec/10_state.md R29). -/
theorem State.bound_after_pulse (s : State) (j : SlotId) (r : DecodeResult) (ph : Phase) :
    ((s.setSlot j (pulsed r ph (s.slot j))).ret 0).bound j = s.bound j := by
  obtain ⟨_, _, _, _, ha, hb, _⟩ := pulsed_frame r ph (s.slot j)
  rw [State.ret_bound, s.setSlot_bound j _ ha hb]

/-- Feeding an adjacent path moves the decoder by the steps of the path (spec/30_encoding.md R121). -/
theorem execAll_feed {s : State} {j : SlotId} {p : Phase} {qs : List Phase} (hbound : s.bound j = true)
    (hp : (s.slot j).lastPhase = p) (hpath : AdjacentPath p qs) :
    ∃ t, execAll (feed j.val qs) s = .next t ∧
      t.slot j = (s.slot j).moved (qs.getLast?.getD p) (forwardSteps p qs) (reverseSteps p qs) := by
  induction qs generalizing s p with
  | nil =>
    subst hp
    exact ⟨s, rfl, (s.slot j).moved_none.symm⟩
  | cons q qs ih =>
    obtain ⟨hq, hrest⟩ := hpath
    have hexec := exec_pulse_of_bound s hbound q
    rw [hp] at hexec
    obtain ⟨t, hfeed, ht⟩ := ih ((s.bound_after_pulse j _ q).trans hbound) (by simp) hrest
    refine ⟨t, (execAll_cons_of_next hexec _).trans hfeed, ?_⟩
    rw [ht, State.ret_slot, State.setSlot_slot, if_pos rfl, List.getLast?_cons, Option.getD_some]
    obtain rfl | rfl := hq
    · rw [decodePair_nextPhase, moved_pulsed_fwd]
      simp [forwardSteps, reverseSteps, nextPhase_ne_prevPhase]
    · rw [decodePair_prevPhase, moved_pulsed_rev]
      simp [forwardSteps, reverseSteps, (nextPhase_ne_prevPhase p).symm]

end Sys2Proof.Machine

namespace Sys2Proof

open Machine

/-- Settles O26: the steps of the path are added to the zeros of construction. -/
theorem idealSamplingCountsEveryStep : Obligations.IdealSamplingCountsEveryStep := by
  unfold Obligations.IdealSamplingCountsEveryStep
  intro s j ppr zp q0 qs hbound hslot hpath
  obtain ⟨t, hfeed, ht⟩ := execAll_feed hbound (by rw [hslot]; rfl) hpath
  refine ⟨t, hfeed, ?_⟩
  rw [ht, hslot]
  exact ⟨rfl, BitVec.zero_add _, BitVec.zero_add _, rfl, rfl, BitVec.zero_add _⟩

end Sys2Proof

/-! ### The calibration arithmetic (spec/42_index.md R166) -/

namespace Sys2Proof.Machine

/-- The two ways round a wrapped difference have one magnitude, -2^31 being its own negation. -/
theorem bmod_natAbs_swap (a b : Int) : ((a - b).bmod (2 ^ 32)).natAbs = ((b - a).bmod (2 ^ 32)).natAbs := by
  simp only [Int.bmod]
  omega

theorem absU32_le (x : Word) : (absU32 x).toNat ≤ 2 ^ 31 := by
  have hlo := x.le_toInt
  have hhi := x.toInt_lt
  rw [absU32_toNat]
  omega

/-- A difference that fits the signed range is not reduced. -/
theorem absU32_sub_of_fits (x y : Word) (hlo : -(2 ^ 31) ≤ x.toInt - y.toInt) (hhi : x.toInt - y.toInt < 2 ^ 31) :
    (absU32 (x - y)).toNat = (x.toInt - y.toInt).natAbs := by
  rw [absU32_sub_toNat, Int.bmod_eq_of_le (by omega) (by omega)]

end Sys2Proof.Machine

namespace Sys2Proof

open Machine

/-- Settles O28: the magnitude is that of the exact difference reduced into the signed range. -/
theorem calibrationMagnitudeCorners : Obligations.CalibrationMagnitudeCorners := by
  unfold Obligations.CalibrationMagnitudeCorners
  intro net last
  simp only [wrapS32_sub]
  refine ⟨?equal, ?swap, absU32_sub_of_fits net last, ?corner, absU32_le _⟩
  case equal =>
    rintro rfl
    rw [BitVec.sub_self]
    rfl
  case swap =>
    apply BitVec.eq_of_toNat_eq
    rw [absU32_sub_toNat, absU32_sub_toNat, bmod_natAbs_swap]
  case corner =>
    intro h
    rw [absU32_sub_eq, h]
    rfl

end Sys2Proof

/-! ### Derived flags and status codes -/

namespace Sys2Proof.Machine

/-- No two statuses share a code (spec/60_exceptions.md R212). -/
theorem status_code_inj {a b : Status} (h : a.code = b.code) : a = b := by
  revert h
  cases a with
  | ok | configCapacity | configPins | indexRange | empty | unbound | illegal => cases b with
    | ok | configCapacity | configPins | indexRange | empty | unbound | illegal => decide

theorem status_code_ne_seven (a : Status) : a.code ≠ 7 := by
  cases a with
  | ok | configCapacity | configPins | indexRange | empty | unbound | illegal => decide

theorem Decoder.inUse_iff (d : Decoder) : d.inUse = true ↔ d.aValid = true ∧ d.bValid = true := Bool.and_eq_true_iff

theorem State.bound_iff_inUse (s : State) (k : SlotId) :
    s.bound k = true ↔ k.val < s.count.val ∧ (s.slot k).inUse = true := by
  rw [State.bound_iff, Decoder.inUse_iff]

theorem zextBool_inUse (d : Decoder) : zextBool d.inUse = if d.aValid = true ∧ d.bValid = true then 1 else 0 := by
  simp only [zextBool_eq, Decoder.inUse_iff]

end Sys2Proof.Machine

namespace Sys2Proof

open Machine

/-- Settles O11: by the seven statuses. -/
theorem statusCodesAreNumberedAndSevenIsUnused : Obligations.StatusCodesAreNumberedAndSevenIsUnused := by
  unfold Obligations.StatusCodesAreNumberedAndSevenIsUnused
  exact ⟨rfl, rfl, rfl, rfl, rfl, rfl, rfl, fun _ _ => status_code_inj, status_code_ne_seven⟩

/-- Settles O13: by the definitions of the three flags. -/
theorem derivedFlagsOfASlot : Obligations.DerivedFlagsOfASlot := by
  unfold Obligations.DerivedFlagsOfASlot
  exact fun s k => ⟨(s.slot k).inUse_iff, s.bound_iff_inUse k, s.zBound_iff k⟩

end Sys2Proof

/-! ### Reads: the value of the resolved slot, the status of an index that does not resolve, and reading again -/

namespace Sys2Proof.Machine

/-- The six non-destructive reads, each with the value of a slot that it returns (spec/43_read.md R171, R175 to
R179). -/
theorem exec_nonDestructiveRead {n : Nat} {i : Instr}
    (hi : i ∈ [.rdnet n, .rdppr n, .inuse n, .rdfwd n, .rdrev n, .rdflt n]) :
    ∃ f : Decoder → Word, ∀ s, exec i s = .next (s.readSlot n f) := by
  simp only [List.mem_cons, List.not_mem_nil, or_false] at hi
  obtain rfl | rfl | rfl | rfl | rfl | rfl := hi
  · exact ⟨_, exec_rdnet (i := n)⟩
  · exact ⟨_, exec_rdppr (i := n)⟩
  · exact ⟨_, exec_inuse (i := n)⟩
  · exact ⟨_, exec_rdfwd (i := n)⟩
  · exact ⟨_, exec_rdrev (i := n)⟩
  · exact ⟨_, exec_rdflt (i := n)⟩

/-- A read does not read the response port, and writes nothing else. -/
theorem State.readSlot_respond (s : State) (n : Nat) (f : Decoder → Word) (st : Status) (v : Word) :
    (s.respond st v).readSlot n f = s.readSlot n f := by
  have hresolve : (s.respond st v).resolve n = s.resolve n := State.resolve_congr rfl rfl n
  simp only [State.readSlot, hresolve]
  rfl

end Sys2Proof.Machine

namespace Sys2Proof

open Machine

/-- Settles O31: each read returns one value of the resolved slot. -/
theorem readsReturnTheirField : Obligations.ReadsReturnTheirField := by
  unfold Obligations.ReadsReturnTheirField
  intro s i k hk
  rw [exec_rdnet, exec_rdppr, exec_rdfwd, exec_rdrev, exec_rdflt, exec_inuse]
  simp only [State.readSlot_of_ok _ _ hk, zextBool_inUse, State.ret_eq, and_self]

/-- Settles O32: each read, CFAULT among them, raises the status that the resolution gives. -/
theorem readWithoutASlotAnswersItsStatus : Obligations.ReadWithoutASlotAnswersItsStatus := by
  unfold Obligations.ReadWithoutASlotAnswersItsStatus
  intro s i st hst
  rw [exec_rdnet, exec_rdppr, exec_rdfwd, exec_rdrev, exec_rdflt, exec_inuse, exec_cfault_of_error hst]
  simp only [State.readSlot_of_error _ _ hst, State.raise_eq, and_self]

/-- Settles O33: the state that a read leaves differs in the response port only, which the next read does not see. -/
theorem nonDestructiveReadsAreIdempotent : Obligations.NonDestructiveReadsAreIdempotent := by
  unfold Obligations.NonDestructiveReadsAreIdempotent
  intro s t n i hi hexec
  obtain ⟨f, hread⟩ := exec_nonDestructiveRead hi
  obtain ⟨st, v, hrespond⟩ := s.readSlot_eq n f
  obtain rfl : s.readSlot n f = t := by simpa [hread s] using hexec
  refine ⟨⟨st, v, hrespond⟩, ?_⟩
  rw [hread, hrespond, State.readSlot_respond, hrespond]

end Sys2Proof

/-! ### CFAULT after CFAULT, and after a fault -/

namespace Sys2Proof.Machine

section

variable {s : State}

@[simp] theorem State.clearLatch_slot_self (s : State) (k : SlotId) :
    (s.clearLatch k).slot k = { s.slot k with faultLatch := false } := by
  rw [State.clearLatch, State.setSlot_slot, if_pos rfl]

/-- What an atomic CFAULT leaves: the latch returned, the latch clear, and everything that a second one resolves by. -/
theorem exec_cfault_atomic {i : Nat} {k : SlotId} (hatomic : s.params.consumeAtomic = true)
    (hk : s.resolve i = .ok k) :
    ∃ t, exec (.cfault i) s = .next t ∧ t.response = ⟨.ok, if (s.slot k).faultLatch = true then 1 else 0⟩ ∧
      t.slot k = { s.slot k with faultLatch := false } ∧ t.count = s.count ∧ t.params = s.params := by
  refine ⟨_, exec_cfault_of_atomic hatomic hk, ?_, ?_, rfl, rfl⟩
  · rw [State.ret_response, zextBool_eq]
  · rw [State.ret_slot, State.clearLatch_slot_self]

/-- A fault of slot `j` waits to be reported by CFAULT `i`. -/
def State.FaultWaits (s : State) (i : Nat) (j : SlotId) : Prop :=
  s.params.consumeAtomic = true ∧ s.resolve i = .ok j ∧ (s.slot j).faultLatch = true

/-- The interrupt context clears no latch (spec/10_state.md R25). -/
theorem pulsed_faultLatch_of_set (r : DecodeResult) (ph : Phase) {d : Decoder} (h : d.faultLatch = true) :
    (pulsed r ph d).faultLatch = true := by
  cases r with
  | fwd | rev | noChg => exact h
  | fault => rfl

theorem exec_interrupt_keeps_faultWaits {o : Instr} (ho : isInterruptOperation o) {i : Nat} {j : SlotId}
    (h : s.FaultWaits i j) : ∃ t, exec o s = .next t ∧ t.FaultWaits i j := by
  obtain ⟨hatomic, hresolve, hlatch⟩ := h
  obtain ⟨a, hacts, hexec⟩ := exec_acts s o
  have hsetup : o.context ≠ .setup := by rw [ho]; exact nofun
  have hcount : (a.run s).count = s.count := (Action.run_registry (hacts.ne_assign hsetup)).1
  have hj : j.val < s.count.val := s.resolve_lt hresolve
  refine ⟨_, hexec, ?_, (State.resolve_congr hcount (a.run_params s) i).trans hresolve, ?_⟩
  · rw [a.run_params, hatomic]
  · have hchange := exec_slotChange hj hexec
    generalize (a.run s).slot j = d at hchange ⊢
    cases hchange with
    | same => exact hlatch
    | pulsed r ph => exact pulsed_faultLatch_of_set r ph hlatch
    | indexed =>
      obtain ⟨_, _, _, _, _, _, _, hframe, _⟩ := indexed_frame (s.slot j)
      exact hframe.trans hlatch
    | consumed _ hi _ => subst hi; cases ho

theorem execAll_append_of_next {is : List Instr} {t : State} (h : execAll is s = .next t) (js : List Instr) :
    execAll (is ++ js) s = execAll js t := by
  induction is generalizing s with
  | nil => cases h; rfl
  | cons i is ih =>
    obtain ⟨a, _, hexec⟩ := exec_acts s i
    rw [execAll_cons_of_next hexec] at h
    rw [List.cons_append, execAll_cons_of_next hexec, ih h]

end

end Sys2Proof.Machine

namespace Sys2Proof

open Machine

/-- Settles O36: the second CFAULT finds the latch that the first has cleared. -/
theorem consumeTwiceReportsOnce : Obligations.ConsumeTwiceReportsOnce := by
  unfold Obligations.ConsumeTwiceReportsOnce
  intro s i k hatomic hk
  obtain ⟨t, ht, hresponse, hslot, hcount, hparams⟩ := exec_cfault_atomic hatomic hk
  obtain ⟨u, hu, hresponse', hslot', _⟩ := exec_cfault_atomic (s := t) (by rw [hparams, hatomic])
    ((State.resolve_congr hcount hparams i).trans hk)
  refine ⟨t, u, ht, hu, ?_, ?_, ?_⟩
  · rw [hresponse]
  · rw [hresponse', hslot]
    rfl
  · rw [hslot', hslot]

/-- Settles O37: the fault sets the latch, the interrupt context keeps it set, and CFAULT returns it. -/
theorem atomicConsumeLosesNoFault : Obligations.AtomicConsumeLosesNoFault := by
  unfold Obligations.AtomicConsumeLosesNoFault
  intro s j i ph ops hatomic hbound hresolve hfault hops
  have hpulse := exec_pulse_of_bound s hbound ph
  have hwaits : ((s.setSlot j (pulsed (decodePair (s.slot j).lastPhase ph) ph (s.slot j))).ret 0).FaultWaits i j := by
    refine ⟨hatomic, hresolve, ?_⟩
    rw [State.ret_slot, State.setSlot_slot, if_pos rfl, hfault]
    rfl
  obtain ⟨u, hbetween, hatomic', hresolve', hlatch⟩ :=
    execAll_keeps (fun o ho _ => exec_interrupt_keeps_faultWaits (hops o ho)) hwaits
  obtain ⟨t, ht, hresponse, hslot, _⟩ := exec_cfault_atomic hatomic' hresolve'
  refine ⟨t, ?_, ?_, ?_⟩
  · rw [List.cons_append, execAll_cons_of_next hpulse, execAll_append_of_next hbetween, execAll_cons_of_next ht,
      execAll_nil]
  · rw [hresponse, if_pos hlatch]
  · rw [hslot]

end Sys2Proof

/-! ### CFAULT as two transitions -/

namespace Sys2Proof.Machine

section

variable {s : State} {rest : List Input}

/-- The read step of a split CFAULT, requested on the command port (spec/43_read.md R174). -/
theorem step_cfault_read {i : Nat} {k : SlotId} (hsplit : s.params.consumeAtomic = false) (hfree : s.busySlot = none)
    (hi : i < 4) (hk : s.resolve i = .ok k) (hinputs : s.inputs = .request (encode (.cfault i)) :: rest) :
    step s = .next ((s.setInputs rest).splitReadLatch k) :=
  (step_request hinputs (decodeOfEncodeGivesTheOperation (.cfault i) ((slotFits_iff i).2 hi)) (.inl hfree)).trans
    (exec_cfault_of_split hsplit hk)

/-- PULSE is no host operation, so it runs between the two transitions of a CFAULT too (spec/43_read.md R174). -/
theorem step_pulse {k : SlotId} {ph : Phase} (hbound : s.bound k = true)
    (hinputs : s.inputs = .request (encode (.pulse k.val ph)) :: rest) :
    step s = .next (((s.setInputs rest).setSlot k
      (pulsed (decodePair (s.slot k).lastPhase ph) ph (s.slot k))).ret 0) :=
  (step_request hinputs (decodeOfEncodeGivesTheOperation (.pulse k.val ph) ((slotFits_iff k.val).2 (by omega)))
    (.inr rfl)).trans (exec_pulse_of_bound (s.setInputs rest) hbound ph)

@[simp] theorem State.splitReadLatch_split_get_self (s : State) (k : SlotId) :
    (s.splitReadLatch k).split.get k = ⟨(s.slot k).faultLatch, true⟩ :=
  Bank.get_set_self _ _ _

@[simp] theorem State.splitReadLatch_slot (s : State) (k j : SlotId) : (s.splitReadLatch k).slot j = s.slot j := rfl

end

end Sys2Proof.Machine

namespace Sys2Proof

open Machine

/-- Settles O38: the read step and the clear step, each by its own rule. -/
theorem splitConsumeReadsThenClears : Obligations.SplitConsumeReadsThenClears := by
  unfold Obligations.SplitConsumeReadsThenClears
  constructor
  · intro s i k hsplit hk
    rw [exec_cfault_of_split hsplit hk, State.splitReadLatch]
  · intro s k rest hinputs hbusy
    rw [step_clear hinputs hbusy, State.splitClear_eq]
    rfl

/-- Settles O39: an operation of the setup or poll context is one of the host, which waits for the clear step. -/
theorem hostOperationWaitsForTheClearStep : Obligations.HostOperationWaitsForTheClearStep := by
  unfold Obligations.HostOperationWaitsForTheClearStep
  intro s k r i rest hinputs hdecode hcontext hbusy
  rw [step_host_waits hinputs hdecode hbusy ((isHostOperation_iff i).2 hcontext), State.splitClear_eq]

/-- Settles O40: the read step keeps the latch as it was, the PULSE sets and counts the fault, and the clear step clears
the latch and answers what was kept. -/
theorem splitConsumeCanLoseAReport : Obligations.SplitConsumeCanLoseAReport := by
  unfold Obligations.SplitConsumeCanLoseAReport
  intro s i k ph rest hsplit hfree hi hk hbound hfault hinputs
  have hread := step_cfault_read hsplit hfree hi hk hinputs
  have hpulse := step_pulse (ph := ph) (rest := .clear k :: rest)
    (s := (s.setInputs (.request (encode (.pulse k.val ph)) :: .clear k :: rest)).splitReadLatch k) hbound rfl
  refine ⟨_, (core_run_succ hread 2).trans ((core_run_succ hpulse 1).trans
    (core_run_succ (step_clear rfl ?busy) 0)), rfl, ?response, ?latch, ?count⟩
  case busy => simp
  case response => simp [State.splitClear, zextBool_eq]
  case latch => simp [State.splitClear_slot]
  case count => simp [State.splitClear_slot, hfault, pulsed_fault]

end Sys2Proof

/-! ### REGISTER under `edge_pending` -/

namespace Sys2Proof

open Machine

theorem initialPhase_of_edgePending {s : State} (h : s.params.irqModel = .edgePending) (k : SlotId) (ph0 : Phase) :
    s.initialPhase k ph0 = phaseOf (s.pins.get k).a (s.pins.get k).b := by
  simp only [State.initialPhase, h]

/-- Settles O42: as under `free`, with the phase of the pins; an assignment drops every pending bit. -/
theorem registerUnderEdgePendingSamplesThePins : Obligations.RegisterUnderEdgePendingSamplesThePins := by
  unfold Obligations.RegisterUnderEdgePendingSamplesThePins
  intro s k ppr av bv zp ph0 hmodel hk
  refine ⟨_, exec_register_of_free s hk ppr av bv zp ph0, ?count, ?slot, rfl, ?others, ?pending, rfl, rfl, rfl, rfl⟩
  case count => rw [State.respond_count, s.assign_count_val hk]
  case slot =>
    rw [State.respond_slot, State.assign_slot, if_pos rfl, constructed_eq, initialPhase_of_edgePending hmodel]
    rfl
  case others =>
    intro j hj
    rw [State.respond_slot, State.assign_slot, if_neg hj]
  case pending =>
    intro j c
    rw [State.respond_pending, State.assign_pending_get, Lines.zero_get]

/-- Settles O44: by the rule of a request, and the rule of an empty schedule. -/
theorem stepRunsTheDecodedOperation : Obligations.StepRunsTheDecodedOperation := by
  unfold Obligations.StepRunsTheDecodedOperation
  refine ⟨fun s r i rest hinputs hdecode hfree => ?_, fun s nbits w i hdecode hfree => ?_, fun s => step_idle⟩
  · exact step_request hinputs hdecode (hfree.imp_right (isHostOperation_eq_false_iff i).2)
  · exact step_request (s := s.withFetchWord nbits w) rfl hdecode (.inl hfree)

/-- Settles O46: by the rule of a dispatch, for each of the three sources. -/
theorem dispatchRunsThePendingCallback : Obligations.DispatchRunsThePendingCallback := by
  unfold Obligations.DispatchRunsThePendingCallback
  exact fun s k rest => ⟨step_dispatch, step_dispatch, step_dispatch⟩

end Sys2Proof

/-! ### Pin changes under `edge_pending` (spec/60_exceptions.md R221) -/

namespace Sys2Proof.Machine

/-- A pin change under `edge_pending`: the level is inverted, and the pending bit set where the edge requests it. -/
theorem State.changePin_of_edgePending {s : State} (h : s.params.irqModel = .edgePending) (k : SlotId) (c : Channel) :
    s.changePin k c = (s.setPins k ((s.pins.get k).set c (!(s.pins.get k).get c))).setPending k
      ((s.pending.get k).set c ((s.pending.get k).get c || s.edgeRequests k c ((s.pins.get k).get c))) := by
  have hsame : (s.pending.get k).set c ((s.pending.get k).get c) = s.pending.get k := by
    cases c with
    | a | b | z => rfl
  simp only [State.changePin, h]
  split
  next hrequest => rw [hrequest, Bool.or_true]
  next hrequest =>
    rw [Bool.eq_false_of_not_eq_true hrequest, Bool.or_false, hsame]
    simp only [State.setPending, State.setPins, Bank.set_get]

end Sys2Proof.Machine

namespace Sys2Proof

open Machine

/-- Settles O45: each clause reads one of the two writes of the pin change. -/
theorem pinChangeRequestsItsCallback : Obligations.PinChangeRequestsItsCallback := by
  unfold Obligations.PinChangeRequestsItsCallback
  intro s k c rest hmodel hinputs
  have hstep := step_edge hinputs
  rw [State.changePin_of_edgePending (s := s.setInputs rest) hmodel] at hstep
  refine ⟨_, hstep, rfl, ?level, ?others, ?ab, ?z, rfl, rfl, rfl, rfl, rfl⟩
  case level => simp [Lines.get_set]
  case others =>
    intro j c' hne
    simp only [State.setPending_pins, State.setPins_pins, State.setPending_pending, State.setPins_pending,
      State.setInputs_pins, State.setInputs_pending, Bank.get_set]
    split
    next hj =>
      have hc : c' ≠ c := fun hc => hne (by rw [hj, hc])
      simp only [Lines.get_set, if_neg hc, hj, and_self]
    next => exact ⟨rfl, rfl⟩
  case ab =>
    intro hc
    cases c with
    | a | b => simp [Lines.get_set, State.edgeRequests]
    | z => exact absurd rfl hc
  case z =>
    rintro rfl
    simp [Lines.set, Lines.get, State.edgeRequests]

end Sys2Proof

/-! ### Edges merged in one pending bit (spec/60_exceptions.md R224) -/

namespace Sys2Proof.Machine

/-- What the merging of edges depends on, under `edge_pending` and for a bound slot `k`: its decoder `d`, its pin
levels `l`, its pending bits `p`, and the schedule. -/
structure State.Shows (s : State) (k : SlotId) (d : Decoder) (l p : Lines) (schedule : List Input) : Prop where
  model : s.params.irqModel = .edgePending
  bound : s.bound k = true
  slot : s.slot k = d
  pins : s.pins.get k = l
  pending : s.pending.get k = p
  inputs : s.inputs = schedule

section

variable {s : State} {k : SlotId} {d : Decoder} {l p : Lines} {rest : List Input} {c : Channel}

/-- An edge of A or B inverts its level and sets its pending bit. -/
theorem State.Shows.edge (h : s.Shows k d l p (.edge k c :: rest)) (hc : c ≠ .z) :
    ∃ t, step s = .next t ∧ t.Shows k d (l.set c (!l.get c)) (p.set c true) rest := by
  have hstep := step_edge h.inputs
  have hrequests : (s.setInputs rest).edgeRequests k c (l.get c) = true := by
    cases c with
    | a | b => exact h.bound
    | z => exact absurd rfl hc
  rw [State.changePin_of_edgePending (s := s.setInputs rest) h.model, State.setInputs_pins, State.setInputs_pending,
    h.pins, h.pending, hrequests, Bool.or_true] at hstep
  exact ⟨_, hstep, h.model, h.bound, h.slot, Bank.get_set_self _ _ _, Bank.get_set_self _ _ _, rfl⟩

/-- The dispatch of A or B clears its pending bit and runs PULSE with the levels as they are. -/
theorem State.Shows.dispatch (h : s.Shows k d l p (.dispatch k c :: rest)) (hc : c ≠ .z) (hp : p.get c = true) :
    ∃ t, step s = .next t ∧
      t.Shows k (pulsed (decodePair d.lastPhase (phaseOf l.a l.b)) (phaseOf l.a l.b) d) l (p.set c false) rest := by
  have hstep := step_dispatch h.inputs (by rw [h.pending, hp])
  have hdispatched : s.dispatched k c = .pulse k.val (phaseOf l.a l.b) := by
    cases c with
    | a | b => rw [← h.pins]; rfl
    | z => exact absurd rfl hc
  rw [hdispatched, exec_pulse_of_bound ((s.setInputs rest).setPending k _) h.bound, State.setPending_slot,
    State.setInputs_slot, h.slot, h.pending] at hstep
  refine ⟨_, hstep, h.model, ?_, ?_, h.pins, Bank.get_set_self _ _ _, rfl⟩
  · have hbound := State.bound_after_pulse ((s.setInputs rest).setPending k (p.set c false)) k
      (decodePair d.lastPhase (phaseOf l.a l.b)) (phaseOf l.a l.b)
    rw [State.setPending_slot, State.setInputs_slot, h.slot] at hbound
    exact hbound.trans h.bound
  · rw [State.ret_slot, State.setSlot_slot, if_pos rfl]

end

/-- A PULSE with the phase that the slot holds leaves the decoder as it was. -/
theorem pulsed_same (d : Decoder) : pulsed (decodePair d.lastPhase d.lastPhase) d.lastPhase d = d := by
  rw [decodePair_self]
  rfl

/-- Of two dispatches with the same levels the second sees no change. -/
theorem State.Shows.dispatch_both {s : State} {k : SlotId} {d : Decoder} {l p : Lines} {rest : List Input}
    {c c' : Channel} (h : s.Shows k d l p (.dispatch k c :: .dispatch k c' :: rest)) (hc : c ≠ .z) (hc' : c' ≠ .z)
    (hne : c' ≠ c) (hp : p.get c = true) (hp' : p.get c' = true) :
    ∃ t, Sys2Proof.core.run 2 s = .next t ∧
      t.slot k = pulsed (decodePair d.lastPhase (phaseOf l.a l.b)) (phaseOf l.a l.b) d := by
  obtain ⟨t1, h1, s1⟩ := h.dispatch hc hp
  obtain ⟨t2, h2, s2⟩ := s1.dispatch hc' (by rw [Lines.get_set, if_neg hne, hp'])
  refine ⟨t2, by rw [core_run_succ h1, core_run_succ h2, core_run_zero], ?_⟩
  rw [s2.slot, pulsed_lastPhase]
  exact pulsed_same (pulsed _ (phaseOf l.a l.b) d)

theorem decodePair_edge_a : ∀ a b : Bool,
    decodePair (phaseOf a b) (phaseOf (!a) b) = .fwd ∨ decodePair (phaseOf a b) (phaseOf (!a) b) = .rev := by decide

theorem decodePair_edge_b : ∀ a b : Bool,
    decodePair (phaseOf a b) (phaseOf a (!b)) = .fwd ∨ decodePair (phaseOf a b) (phaseOf a (!b)) = .rev := by decide

/-- One edge of A or B moves the phase one step forward or one step back. -/
theorem decodePair_one_edge (l : Lines) {c : Channel} (hc : c ≠ .z) :
    decodePair (phaseOf l.a l.b) (phaseOf (l.set c (!l.get c)).a (l.set c (!l.get c)).b) = .fwd ∨
      decodePair (phaseOf l.a l.b) (phaseOf (l.set c (!l.get c)).a (l.set c (!l.get c)).b) = .rev := by
  cases c with
  | a => exact decodePair_edge_a l.a l.b
  | b => exact decodePair_edge_b l.a l.b
  | z => exact absurd rfl hc

/-- An edge of A and one of B move the phase across the cycle. -/
theorem decodePair_both_edges : ∀ a b : Bool, decodePair (phaseOf a b) (phaseOf (!a) (!b)) = .fault := by decide

theorem pulsed_counts_once {r : DecodeResult} (hr : r = .fwd ∨ r = .rev) (ph : Phase) (d : Decoder) :
    (pulsed r ph d).faultCount = d.faultCount ∧
      ((pulsed r ph d).netCount = d.netCount + 1 ∧ (pulsed r ph d).forwardCount = d.forwardCount + 1 ∨
        (pulsed r ph d).netCount = d.netCount - 1 ∧ (pulsed r ph d).reverseCount = d.reverseCount + 1) := by
  obtain rfl | rfl := hr
  · rw [pulsed_fwd]
    exact ⟨rfl, .inl ⟨rfl, rfl⟩⟩
  · rw [pulsed_rev]
    exact ⟨rfl, .inr ⟨rfl, rfl⟩⟩

end Sys2Proof.Machine

namespace Sys2Proof

open Machine

/-- Settles O47: (a) one PULSE sees one step; (b) the first PULSE sees both changes and the second none; (c), (d) every
PULSE sees the phase that the slot already holds. -/
theorem mergedEdgesLoseCounts : Obligations.MergedEdgesLoseCounts := by
  unfold Obligations.MergedEdgesLoseCounts
  intro s k c hmodel hbound hpending hphase
  have shows {schedule : List Input} (h : s.inputs = schedule) :
      s.Shows k (s.slot k) (s.pins.get k) ⟨false, false, false⟩ schedule :=
    ⟨hmodel, hbound, rfl, rfl, hpending, h⟩
  change (s.slot k).lastPhase = phaseOf (s.pins.get k).a (s.pins.get k).b at hphase
  refine ⟨?one, ?both, ?twice, ?cycle⟩
  case one =>
    intro hc hinputs
    obtain ⟨t1, h1, s1⟩ := (shows hinputs).edge hc
    obtain ⟨t2, h2, s2⟩ := s1.dispatch hc (by rw [Lines.get_set, if_pos rfl])
    refine ⟨t2, by rw [core_run_succ h1, core_run_succ h2, core_run_zero], ?_⟩
    rw [s2.slot, hphase]
    exact pulsed_counts_once (decodePair_one_edge _ hc) _ _
  case both =>
    intro hinputs
    suffices h : ∃ t, core.run 4 s = .next t ∧
        t.slot k = pulsed .fault (phaseOf (!(s.pins.get k).a) (!(s.pins.get k).b)) (s.slot k) by
      obtain ⟨t, hrun, hslot⟩ := h
      refine ⟨t, hrun, ?_⟩
      rw [hslot, pulsed_fault]
      exact ⟨rfl, rfl, rfl, rfl⟩
    have hfault := decodePair_both_edges (s.pins.get k).a (s.pins.get k).b
    rw [← hphase] at hfault
    rw [← hfault]
    obtain hinputs | hinputs := hinputs
    all_goals
      obtain ⟨t1, h1, s1⟩ := (shows hinputs).edge nofun
      obtain ⟨t2, h2, s2⟩ := s1.edge nofun
      obtain ⟨t, hrun, hslot⟩ := s2.dispatch_both nofun nofun nofun rfl rfl
      exact ⟨t, by rw [core_run_succ h1, core_run_succ h2, hrun], hslot⟩
  case twice =>
    intro hinputs
    obtain ⟨t1, h1, s1⟩ := (shows hinputs).edge nofun
    obtain ⟨t2, h2, s2⟩ := s1.edge nofun
    obtain ⟨t3, h3, s3⟩ := s2.dispatch nofun rfl
    refine ⟨t3, by rw [core_run_succ h1, core_run_succ h2, core_run_succ h3, core_run_zero], ?_⟩
    have hslot := s3.slot
    simpa only [Lines.set, Lines.get, Bool.not_not, ← hphase, pulsed_same] using hslot
  case cycle =>
    intro hinputs
    obtain ⟨t1, h1, s1⟩ := (shows hinputs).edge nofun
    obtain ⟨t2, h2, s2⟩ := s1.edge nofun
    obtain ⟨t3, h3, s3⟩ := s2.edge nofun
    obtain ⟨t4, h4, s4⟩ := s3.edge nofun
    obtain ⟨t, hrun, hslot⟩ := s4.dispatch_both nofun nofun nofun rfl rfl
    refine ⟨t, by rw [core_run_succ h1, core_run_succ h2, core_run_succ h3, core_run_succ h4, hrun], ?_⟩
    simpa only [Lines.set, Lines.get, Bool.not_not, ← hphase, pulsed_same] using hslot

end Sys2Proof
